-- ==== Sys2Proof/Word.lean ====
section
/-! DEFINITION. The value types of the spec's notation (R8, R10, R12 of 00_scope.md): bytes, byte
sequences of a fixed length, and the widths of the request fields. -/

namespace Sys2Proof

/-- One byte; bit 7 is the most significant (R12). -/
abbrev Byte := BitVec 8

/-- `Bytes n` of R12: a sequence of `n` bytes, indexed from 0. -/
abbrev Bytes (n : Nat) := Vector Byte n

/-- A 128-bit port value: an identifier, a message or a response (R8, R28). -/
abbrev Word128 := BitVec 128

/-- A 64-bit port value: a key half, the scalar argument, a hash value (R8, R28). -/
abbrev Word64 := BitVec 64

/-- The operation code `req_op` (R28, R71). -/
abbrev OpCode := BitVec 4

/-- The listing word `REQW = op ++ arg ++ k1 ++ k0 ++ id` (R70). -/
abbrev Reqw := BitVec 324

end Sys2Proof
end

