-- ==== Sys2Proof/Syntax.lean ====
section
/-! DEFINITION. The requests of UUID47-CMD version 1: the one format REQ (R70) as a record, and one
constructor of `Instr` per row of spec/opcode_table.json (R71, R75). Every constructor carries all the
operand fields of the format, also those the operation ignores (R72), because a request is sampled whole
(R58). -/

namespace Sys2Proof

/-- Format REQ (R70): the port values sampled at the accepting edge. -/
structure Request where
  op  : OpCode
  id  : Word128
  k0  : Word64
  k1  : Word64
  arg : Word64
deriving DecidableEq, Repr

/-- One constructor per row of the opcode table; the operands in the order id, k0, k1, arg. -/
inductive Instr where
  /-- `ENCODE` (op 0x0, R145); `arg` is ignored. -/
  | encode (id : Word128) (k0 k1 arg : Word64)
  /-- `DECODE` (op 0x1, R146); `arg` is ignored. -/
  | decode (id : Word128) (k0 k1 arg : Word64)
  /-- `READ_TS` (op 0x2, R105); `k0`, `k1`, `arg` are ignored. -/
  | readTs (id : Word128) (k0 k1 arg : Word64)
  /-- `WRITE_TS` (op 0x3, R106); `k0`, `k1` are ignored. -/
  | writeTs (id : Word128) (k0 k1 arg : Word64)
  /-- `SET_VERSION` (op 0x4, R107); `k0`, `k1` are ignored. -/
  | setVersion (id : Word128) (k0 k1 arg : Word64)
  /-- `SET_VARIANT` (op 0x5, R108); `k0`, `k1`, `arg` are ignored. -/
  | setVariant (id : Word128) (k0 k1 arg : Word64)
  /-- `BUILD_MASK_INPUT` (op 0x6, R134); `k0`, `k1`, `arg` are ignored. -/
  | buildMaskInput (id : Word128) (k0 k1 arg : Word64)
  /-- `KEYED_HASH` (op 0x7, R177). -/
  | keyedHash (id : Word128) (k0 k1 arg : Word64)
  /-- The reserved row (op 0x8 to 0xF, R75); it keeps its code, and every operand is ignored. -/
  | reserved (op : OpCode) (id : Word128) (k0 k1 arg : Word64)
deriving DecidableEq, Repr

end Sys2Proof
end

