-- ==== Sys2Proof/WellFormed.lean ====
section
/-! DEFINITION. Which terms of `Instr` stand for a request. The one check: the reserved row's code is
one of 0x8 to 0xF (R75). Every value of every other field is legal for every operation (R75). -/

namespace Sys2Proof

/-- R75, R83: a reserved code has bit 3 set (match 0x8 under mask 0x8). -/
def isReservedOp (op : OpCode) : Bool := op &&& 0x8#4 == 0x8#4

/-- An instruction some request word stands for. -/
def Instr.wf : Instr → Bool
  | .encode _ _ _ _ => true
  | .decode _ _ _ _ => true
  | .readTs _ _ _ _ => true
  | .writeTs _ _ _ _ => true
  | .setVersion _ _ _ _ => true
  | .setVariant _ _ _ _ => true
  | .buildMaskInput _ _ _ _ => true
  | .keyedHash _ _ _ _ => true
  | .reserved op _ _ _ _ => isReservedOp op

end Sys2Proof
end

