-- ==== Sys2Proof/Decode.lean ====
section
/-! DEFINITION. Command encoding (30_encoding.md): the opcode map, the decoder of a request, the decoder
of the listing word REQW, the reading of numbers in the numbering of spec/opcode_table.json, and the
encoder. -/

namespace Sys2Proof

/-- A number that is no request word is rejected by this name. -/
inductive DecodeError where
  /-- the number needs more than the 324 bits of REQW (R70); safe: no request has such a word -/
  | notARequestWord
deriving DecidableEq, Repr

/-- R71, R83: the operation a request asks for; `op` alone selects it, and every code has exactly one
row, so decoding is total. -/
def decodeRequest (r : Request) : Instr :=
  match r.op with
  | 0x0#4 => .encode r.id r.k0 r.k1 r.arg
  | 0x1#4 => .decode r.id r.k0 r.k1 r.arg
  | 0x2#4 => .readTs r.id r.k0 r.k1 r.arg
  | 0x3#4 => .writeTs r.id r.k0 r.k1 r.arg
  | 0x4#4 => .setVersion r.id r.k0 r.k1 r.arg
  | 0x5#4 => .setVariant r.id r.k0 r.k1 r.arg
  | 0x6#4 => .buildMaskInput r.id r.k0 r.k1 r.arg
  | 0x7#4 => .keyedHash r.id r.k0 r.k1 r.arg
  | op    => .reserved op r.id r.k0 r.k1 r.arg

/-- R70: the fields of REQW: `op` is bits 323:320, `arg` 319:256, `k1` 255:192, `k0` 191:128, `id` 127:0. -/
def Request.ofWord (w : Reqw) : Request where
  op  := w.extractLsb' 320 4
  arg := w.extractLsb' 256 64
  k1  := w.extractLsb' 192 64
  k0  := w.extractLsb' 128 64
  id  := w.extractLsb' 0 128

/-- The instruction a listing word stands for. -/
def decode (w : Reqw) : Instr := decodeRequest (Request.ofWord w)

/-- The same on a number: total, and rejecting by name what is no request word. -/
def decodeNumber (n : Nat) : Except DecodeError Instr :=
  if n < 2 ^ 324 then .ok (decode (BitVec.ofNat 324 n)) else .error .notARequestWord

/-- The opcode table numbers bits from `op`: its bits 3:0 are `op` (R83: match and mask apply to `op`).
The operands count on from there: bits 323:4 are REQW[319:0] (DESIGN CHOICE, log entry 3). Above bit 323
there is nothing: such a number stays as it is and is no request word. -/
def reqwOfTableNumber (t : Nat) : Nat :=
  if t < 2 ^ 324 then (t % 16) * 2 ^ 320 + t / 16 else t

/-- The instruction the decoder reads from the low `nbits` bits of `w`, numbered as the table numbers
them, every bit above them zero. -/
def decodeTableWord (nbits w : Nat) : Option Instr :=
  (decodeNumber (reqwOfTableNumber (w % 2 ^ nbits))).toOption

/-- The request of those same bits, for a machine that is given one. -/
def requestOfTableWord (nbits w : Nat) : Request :=
  Request.ofWord (BitVec.ofNat 324 (reqwOfTableNumber (w % 2 ^ nbits)))

/-- The operation code of an instruction (R71). -/
def Instr.opcode : Instr → OpCode
  | .encode _ _ _ _ => 0x0#4
  | .decode _ _ _ _ => 0x1#4
  | .readTs _ _ _ _ => 0x2#4
  | .writeTs _ _ _ _ => 0x3#4
  | .setVersion _ _ _ _ => 0x4#4
  | .setVariant _ _ _ _ => 0x5#4
  | .buildMaskInput _ _ _ _ => 0x6#4
  | .keyedHash _ _ _ _ => 0x7#4
  | .reserved op _ _ _ _ => op

/-- The request the host drives for an instruction (R70, R71). -/
def Instr.toRequest (i : Instr) : Request :=
  match i with
  | .encode id k0 k1 arg => ⟨i.opcode, id, k0, k1, arg⟩
  | .decode id k0 k1 arg => ⟨i.opcode, id, k0, k1, arg⟩
  | .readTs id k0 k1 arg => ⟨i.opcode, id, k0, k1, arg⟩
  | .writeTs id k0 k1 arg => ⟨i.opcode, id, k0, k1, arg⟩
  | .setVersion id k0 k1 arg => ⟨i.opcode, id, k0, k1, arg⟩
  | .setVariant id k0 k1 arg => ⟨i.opcode, id, k0, k1, arg⟩
  | .buildMaskInput id k0 k1 arg => ⟨i.opcode, id, k0, k1, arg⟩
  | .keyedHash id k0 k1 arg => ⟨i.opcode, id, k0, k1, arg⟩
  | .reserved _ id k0 k1 arg => ⟨i.opcode, id, k0, k1, arg⟩

/-- R70: `REQW = op ++ arg ++ k1 ++ k0 ++ id`. -/
def Request.toWord (r : Request) : Reqw := r.op ++ r.arg ++ r.k1 ++ r.k0 ++ r.id

/-- The listing word of an instruction. -/
def encode (i : Instr) : Reqw := i.toRequest.toWord

/-- The mnemonic of an instruction's row in spec/opcode_table.json. -/
def Instr.mnemonic : Instr → String
  | .encode _ _ _ _ => "ENCODE"
  | .decode _ _ _ _ => "DECODE"
  | .readTs _ _ _ _ => "READ_TS"
  | .writeTs _ _ _ _ => "WRITE_TS"
  | .setVersion _ _ _ _ => "SET_VERSION"
  | .setVariant _ _ _ _ => "SET_VARIANT"
  | .buildMaskInput _ _ _ _ => "BUILD_MASK_INPUT"
  | .keyedHash _ _ _ _ => "KEYED_HASH"
  | .reserved _ _ _ _ _ => "RESERVED"

/-- spec/opcode_table.json as data: mnemonic, match, mask, both over `op` (R83). -/
def opcodeTable : List (String × OpCode × OpCode) :=
  [("ENCODE", 0x0#4, 0xf#4), ("DECODE", 0x1#4, 0xf#4), ("READ_TS", 0x2#4, 0xf#4),
   ("WRITE_TS", 0x3#4, 0xf#4), ("SET_VERSION", 0x4#4, 0xf#4), ("SET_VARIANT", 0x5#4, 0xf#4),
   ("BUILD_MASK_INPUT", 0x6#4, 0xf#4), ("KEYED_HASH", 0x7#4, 0xf#4), ("RESERVED", 0x8#4, 0x8#4)]

/-- The rows of the table that match an operation code, by mnemonic. -/
def tableRowsOf (op : OpCode) : List String :=
  (opcodeTable.filter fun row => op &&& row.2.2 == row.2.1).map (·.1)

end Sys2Proof
end

