-- ==== Sys2Proof/Config.lean ====
section
/-! DEFINITION. What one implementation fixes and the spec leaves open: the latency of each operation
(R9, R239) and the values every state element has before the first reset (R234). Each is an opaque
constant, so no proof can use a value of it. -/

namespace Sys2Proof

/-- By how much the latency of an operation code exceeds its least value 1. -/
opaque Config.latencyBeyondOne : OpCode → Nat

/-- `LAT(op)` of R9 and R239: a natural number ≥ 1 for each operation code, a function of the code
alone. Every such function is `latencyBeyondOne op + 1` for some opaque part. -/
def Config.LAT (op : OpCode) : Nat := Config.latencyBeyondOne op + 1

/-- R234: the unconstrained draw of `rsp_valid` before the first reset; the argument numbers the draw. -/
opaque Config.drawRspValid : Nat → BitVec 1
/-- R234: the draw of `rsp_status`. -/
opaque Config.drawRspStatus : Nat → BitVec 2
/-- R234: the draw of `rsp_data`. -/
opaque Config.drawRspData : Nat → Word128
/-- R234: the draw of `busy`. -/
opaque Config.drawBusy : Nat → BitVec 1
/-- R234: the draw of `cnt`. -/
opaque Config.drawCnt : Nat → Nat
/-- R234: the draw of `lat_op`. -/
opaque Config.drawLatOp : Nat → OpCode
/-- R234: the draw of `lat_id`. -/
opaque Config.drawLatId : Nat → Word128
/-- R234: the draw of `lat_k0`. -/
opaque Config.drawLatK0 : Nat → Word64
/-- R234: the draw of `lat_k1`. -/
opaque Config.drawLatK1 : Nat → Word64
/-- R234: the draw of `lat_arg`. -/
opaque Config.drawLatArg : Nat → Word64

end Sys2Proof
end

