-- ==== Sys2Proof/Machine/State.lean ====
section
/-! DEFINITION. The block's state (R30 to R33 of 10_state.md), the input ports at the coming clock edges
(R28, R241), the reasons a step can stop, and the state right after reset (R38, R230). -/

namespace Sys2Proof.Machine

/-- The input ports of R28 other than `clk`. -/
inductive InputPort where
  | rst | reqValid | reqOp | reqId | reqK0 | reqK1 | reqArg
deriving DecidableEq, Repr

/-- What the host drives on the input ports at one rising edge (R28); `none` is an undriven port (R241). -/
structure Ports where
  rst      : Option (BitVec 1)
  reqValid : Option (BitVec 1)
  reqOp    : Option OpCode
  reqId    : Option Word128
  reqK0    : Option Word64
  reqK1    : Option Word64
  reqArg   : Option Word64
deriving DecidableEq, Repr

/-- The whole state: the ten elements of R30 to R33, the host's drive of the input ports at the coming
edges, and two fields of the model's own. -/
structure State where
  /-- `rsp_valid` (R30) -/
  rspValid  : BitVec 1
  /-- `rsp_status` (R31) -/
  rspStatus : BitVec 2
  /-- `rsp_data` (R32) -/
  rspData   : Word128
  /-- `busy` (R33): a request is in flight -/
  busy      : BitVec 1
  /-- `cnt` (R33): the edges left until its completion -/
  cnt       : Nat
  /-- `lat_op` (R33) -/
  latOp     : OpCode
  /-- `lat_id` (R33) -/
  latId     : Word128
  /-- `lat_k0` (R33) -/
  latK0     : Word64
  /-- `lat_k1` (R33) -/
  latK1     : Word64
  /-- `lat_arg` (R33) -/
  latArg    : Word64
  /-- what the host drives at each coming rising edge, the next edge first (R28); past its end the host
  drives `rst` = 0 and `req_valid` = 0 (log entry 2) -/
  ports     : List Ports
  /-- the model's own: the block has had a reset edge since power-up (R234, log entry 4) -/
  wasReset  : Bool
  /-- the model's own: how many draws of R234 have been taken (log entry 4) -/
  draws     : Nat
deriving DecidableEq, Repr

/-- Why the machine stops with a fault. -/
inductive Fault where
  /-- Raised by a clock edge with `busy` = 1 and `cnt` = 0 after a reset: R39 has no branch for it (its
  last busy branch is for `cnt` > 1). No run from reset reaches it. Safe: the model stops. -/
  | countExpired
deriving DecidableEq, Repr

/-- Why the model gives a step no meaning. -/
inductive Refusal where
  /-- Raised by an arm of `exec` whose instruction has no meaning yet; no arm does. Safe. -/
  | notModelled (mnemonic : String)
  /-- Raised by a clock edge at which this input port is undriven and matters; R241: "A model must refuse
  such a run". Safe. -/
  | undriven (port : InputPort)
  /-- Raised by a clock edge before the first reset at which a request is offered; R234: the model "must
  not admit a request before the first reset". Safe. -/
  | requestBeforeReset
deriving DecidableEq, Repr

/-- The machine right after reset (R38, R230): every element of R30 to R33 is zero; nothing is driven
yet on the coming edges. -/
def State.reset : State where
  rspValid  := 0#1
  rspStatus := 0b00#2
  rspData   := 0#128
  busy      := 0#1
  cnt       := 0
  latOp     := 0#4
  latId     := 0#128
  latK0     := 0#64
  latK1     := 0#64
  latArg    := 0#64
  ports     := []
  wasReset  := true
  draws     := 0

end Sys2Proof.Machine
end

