-- ==== Sys2Proof/Machine/Ops.lean ====
section
/-! DEFINITION. The named operations on the machine: reading the input and output ports, the register
updates of each branch of R39 (reset, completion, countdown, accept), the abnormal completion of R201 and
R205 (this block's only "exception": a status, no trap and no return), and the draws of R234. -/

namespace Sys2Proof.Machine

/-- The edge of a host that drives nothing new: no reset, no request, operands undriven. -/
def Ports.quiet : Ports := ⟨some 0#1, some 0#1, none, none, none, none, none⟩

/-- The edge of a host that asserts reset and offers no request (R230, R233). -/
def Ports.assertReset : Ports := ⟨some 1#1, some 0#1, none, none, none, none, none⟩

/-- The edge of a host that offers a request (R242). -/
def Ports.offer (r : Request) : Ports :=
  ⟨some 0#1, some 1#1, some r.op, some r.id, some r.k0, some r.k1, some r.arg⟩

/-- The request on the `req_*` operand ports, or the first of them that is undriven (R70, R241). -/
def Ports.request (p : Ports) : Except InputPort Request :=
  match p.reqOp, p.reqId, p.reqK0, p.reqK1, p.reqArg with
  | some op, some id, some k0, some k1, some arg => .ok ⟨op, id, k0, k1, arg⟩
  | none, _, _, _, _ => .error .reqOp
  | _, none, _, _, _ => .error .reqId
  | _, _, none, _, _ => .error .reqK0
  | _, _, _, none, _ => .error .reqK1
  | _, _, _, _, none => .error .reqArg

/-- The port values the next rising edge samples; past the end of the host's drive it is quiet. -/
def State.nextPorts (s : State) : Ports := s.ports.headD Ports.quiet

/-- R241: `req_valid` matters "at every edge with `busy` = 0", a reset edge too. Before the first reset
`busy` is unspecified (R234) and may be 0, so it matters at every such edge (log entry 9). -/
def State.reqValidMatters (s : State) : Bool := !s.wasReset || s.busy == 0#1

/-- That edge is over: the following entry of the host's drive comes next. -/
def State.popPorts (s : State) : State := { s with ports := s.ports.tail }

/-- Output port `req_ready = ~busy` (R34). The other output ports are the registers themselves (R29). -/
def State.reqReady (s : State) : BitVec 1 := ~~~ s.busy

/-- The request the latches hold (R33). -/
def State.latched (s : State) : Request := ⟨s.latOp, s.latId, s.latK0, s.latK1, s.latArg⟩

/-- `lat_* <- 0` (R33, R39). -/
def State.clearLatches (s : State) : State :=
  { s with latOp := 0#4, latId := 0#128, latK0 := 0#64, latK1 := 0#64, latArg := 0#64 }

/-- The reset branch of R39 (R230): every element of R30 to R33 takes its value of R38. -/
def State.toReset (s : State) : State :=
  { s.clearLatches with
    rspValid := 0#1, rspStatus := 0b00#2, rspData := 0#128, busy := 0#1, cnt := 0, wasReset := true }

/-- The accept branch of R39, for request `r` with latency `n`. -/
def State.accept (s : State) (r : Request) (n : Nat) : State :=
  { s with
    latOp := r.op, latId := r.id, latK0 := r.k0, latK1 := r.k1, latArg := r.arg,
    busy := 1#1, cnt := n, rspValid := 0#1 }

/-- The in-flight branch of R39. -/
def State.countDown (s : State) : State := { s with cnt := s.cnt - 1 }

/-- The completion branch of R39, for response (`status`, `data`): the response registers are written,
`rsp_valid` is set, and `busy`, `cnt` and the latches are cleared. -/
def State.respond (s : State) (status : BitVec 2) (data : Word128) : State :=
  { s.clearLatches with
    rspStatus := status, rspData := data, rspValid := 1#1, busy := 0#1, cnt := 0 }

/-- An abnormal completion (R77, R201, R205): it is a completion like any other, with data zero. No state
is saved, no mode changes and no vector is taken. -/
def State.respondError (s : State) (status : BitVec 2) : State := s.respond status 0#128

/-- R234: before the first reset every element of R30 to R33 is an unconstrained draw. -/
def State.redraw (s : State) : State :=
  { s with
    rspValid := Config.drawRspValid s.draws, rspStatus := Config.drawRspStatus s.draws,
    rspData := Config.drawRspData s.draws, busy := Config.drawBusy s.draws,
    cnt := Config.drawCnt s.draws, latOp := Config.drawLatOp s.draws,
    latId := Config.drawLatId s.draws, latK0 := Config.drawLatK0 s.draws,
    latK1 := Config.drawLatK1 s.draws, latArg := Config.drawLatArg s.draws,
    draws := s.draws + 1 }

/-- The machine after power-up and before its first reset (R234), with the host's drive to come. -/
def State.powerUp (drive : List Ports) : State :=
  State.redraw { State.reset with ports := drive, wasReset := false }

/-- The machine about to complete request `r` at its next edge: `r` is in flight with one edge left, and
the host drives a quiet edge first. For placing an instruction (log entry 6). -/
def State.placeRequest (s : State) (r : Request) : State :=
  { s.accept r 1 with ports := Ports.quiet :: s.ports, wasReset := true }

end Sys2Proof.Machine
end

