-- ==== Sys2Proof/Machine/Operands.lean ====
section
/-! DEFINITION. The operand forms: packing of byte sequences on ports (R14), the fields of an identifier
(R23, R24), the assembly of `arg` (R73), the message of KEYED_HASH (R72, R79), little-endian words
(R13), and the packing of a result on `rsp_data` (R74). -/

namespace Sys2Proof.Machine

/-- `unpack128` (R14): byte `i` is port bits `[127-8i : 120-8i]`. -/
def unpack128 (I : Word128) : Bytes 16 :=
  Vector.ofFn fun i => I.extractLsb' (120 - 8 * i.val) 8

/-- `pack128(B) = B[0] ++ B[1] ++ ... ++ B[15]` (R14). -/
def pack128 (B : Bytes 16) : Word128 :=
  B[0] ++ B[1] ++ B[2] ++ B[3] ++ B[4] ++ B[5] ++ B[6] ++ B[7] ++
    B[8] ++ B[9] ++ B[10] ++ B[11] ++ B[12] ++ B[13] ++ B[14] ++ B[15]

/-- `pack80(C) = C[0] ++ ... ++ C[9]` (R14). -/
def pack80 (C : Bytes 10) : BitVec 80 :=
  C[0] ++ C[1] ++ C[2] ++ C[3] ++ C[4] ++ C[5] ++ C[6] ++ C[7] ++ C[8] ++ C[9]

/-- `ts(id)` (R24): bytes 0 to 5, big-endian. -/
def fieldTs (B : Bytes 16) : BitVec 48 := B[0] ++ B[1] ++ B[2] ++ B[3] ++ B[4] ++ B[5]

/-- `ver(id) = id[6][7:4]` (R24). -/
def fieldVer (B : Bytes 16) : BitVec 4 := B[6].extractLsb' 4 4

/-- `pa(id) = id[6][3:0] ++ id[7]` (R24): payload segment A. -/
def fieldPa (B : Bytes 16) : BitVec 12 := B[6].extractLsb' 0 4 ++ B[7]

/-- `var(id) = id[8][7:6]` (R24). -/
def fieldVar (B : Bytes 16) : BitVec 2 := B[8].extractLsb' 6 2

/-- `pb(id) = id[8][5:0] ++ id[9] ++ ... ++ id[15]` (R24): payload segment B. -/
def fieldPb (B : Bytes 16) : BitVec 62 :=
  B[8].extractLsb' 0 6 ++ B[9] ++ B[10] ++ B[11] ++ B[12] ++ B[13] ++ B[14] ++ B[15]

/-- `trunc_48(arg) = arg[47:0]`: the value of WRITE_TS (R73, R101). -/
def argTimestamp (arg : Word64) : BitVec 48 := arg.extractLsb' 0 48

/-- `arg[3:0]`: the version of SET_VERSION (R73, R102). -/
def argVersion (arg : Word64) : BitVec 4 := arg.extractLsb' 0 4

/-- `len = arg[7:0]`, read as an unsigned integer 0 to 255: the length of KEYED_HASH (R73). -/
def argLength (arg : Word64) : Nat := (arg.extractLsb' 0 8).toNat

/-- The message bytes `id[0..len-1]` of KEYED_HASH (R72, R79); empty when `len` = 0. -/
def messageBytes (id : Word128) (len : Nat) : List Byte := (unpack128 id).toList.take len

/-- `LE_r` (R13, R173): the little-endian value of at most 8 bytes, zero-extended to 64 bits; the first
byte is the least significant, and `LE_0` = 0. -/
def leWord : List Byte → Word64
  | [] => 0#64
  | b :: rest => b.setWidth 64 ||| leWord rest <<< 8

/-- A scalar result on `rsp_data`: right-aligned, zero-extended (R74). -/
def dataOfScalar {n : Nat} (v : BitVec n) : Word128 := v.setWidth 128

/-- An identifier result on `rsp_data` (R74). -/
def dataOfIdentifier (B : Bytes 16) : Word128 := pack128 B

/-- A buffer result on `rsp_data`: left-aligned in bytes 0 to 9, bytes 10 to 15 zero (R74). -/
def dataOfBuffer (C : Bytes 10) : Word128 := pack80 C ++ 0#48

end Sys2Proof.Machine
end

