-- ==== Sys2Proof/Machine/Flags.lean ====
section
/-! DEFINITION. The status codes on `rsp_status` (R31, R76) and the one condition that is computed from
an operand: the length check of KEYED_HASH (R75, R177). The flag `rsp_valid` is written by
`State.respond`, `State.accept` and `State.toReset` (R30, R36). -/

namespace Sys2Proof.Machine

/-- `OK` (R76). -/
def statusOk : BitVec 2 := 0b00#2

/-- `ILLEGAL_OP` (R76): a reserved operation code. -/
def statusIllegalOp : BitVec 2 := 0b01#2

/-- `BAD_LEN` (R76): KEYED_HASH with a length above 10. -/
def statusBadLen : BitVec 2 := 0b10#2

/-- 0b11 (R31, R76): reserved, never produced. -/
def statusNeverProduced : BitVec 2 := 0b11#2

/-- The longest message KEYED_HASH takes (R75). -/
def maxMessageLength : Nat := 10

/-- R75: the length field asks for more than 10 bytes. -/
def lengthIsBad (arg : Word64) : Bool := maxMessageLength < argLength arg

/-- R76: the status of a request, from its code and its length field. -/
def statusOf (op : OpCode) (arg : Word64) : BitVec 2 :=
  if 0x8#4 ≤ op then statusIllegalOp
  else if op = 0x7#4 ∧ lengthIsBad arg = true then statusBadLen
  else statusOk

end Sys2Proof.Machine
end

