-- ==== Sys2Proof/Machine/Reserved.lean ====
section
/-! DEFINITION. The reserved operation codes 0x8 to 0xF (R75, R201, R205). -/

namespace Sys2Proof.Machine

/-- A reserved code completes like any other request, with ILLEGAL_OP and data zero (R75). -/
def execReserved (s : State) : Host.Outcome State Fault Refusal :=
  .next (s.respondError statusIllegalOp)

end Sys2Proof.Machine
end

