-- ==== Sys2Proof/Machine/BitField.lean ====
section
/-! DEFINITION. Bit-field accessor (40_bitfield.md): the four functions of R100 to R103 on byte
sequences, and the commands READ_TS, WRITE_TS, SET_VERSION and SET_VARIANT (R105 to R108). -/

namespace Sys2Proof.Machine

/-- R100: the big-endian value of bytes 0 to 5. -/
def readTimestamp48 (B : Bytes 16) : BitVec 48 := B[0] ++ B[1] ++ B[2] ++ B[3] ++ B[4] ++ B[5]

/-- R101: bytes 0 to 5 become the low 48 bits of `value`, big-endian; bytes 6 to 15 are kept. -/
def writeTimestamp48 (B : Bytes 16) (value : Word64) : Bytes 16 :=
  let v := argTimestamp value
  #v[v.extractLsb' 40 8, v.extractLsb' 32 8, v.extractLsb' 24 8,
     v.extractLsb' 16 8, v.extractLsb' 8 8, v.extractLsb' 0 8,
     B[6], B[7], B[8], B[9], B[10], B[11], B[12], B[13], B[14], B[15]]

/-- R102: byte 6's high nibble becomes `version[3:0]`; everything else is kept. -/
def setVersion (B : Bytes 16) (version : Word64) : Bytes 16 :=
  B.set 6 (argVersion version ++ B[6].extractLsb' 0 4)

/-- R103: byte 8's top 2 bits become `10`; everything else is kept. -/
def setVariantRFC4122 (B : Bytes 16) : Bytes 16 :=
  B.set 8 (0b10#2 ++ B[8].extractLsb' 0 6)

/-- READ_TS (R105): the timestamp of `id`, zero-extended. -/
def execReadTs (id : Word128) (s : State) : Host.Outcome State Fault Refusal :=
  .next (s.respond statusOk (dataOfScalar (readTimestamp48 (unpack128 id))))

/-- WRITE_TS (R106): `id` with its timestamp replaced by `arg[47:0]`. -/
def execWriteTs (id : Word128) (arg : Word64) (s : State) : Host.Outcome State Fault Refusal :=
  .next (s.respond statusOk (dataOfIdentifier (writeTimestamp48 (unpack128 id) arg)))

/-- SET_VERSION (R107): `id` with its version replaced by `arg[3:0]`. -/
def execSetVersion (id : Word128) (arg : Word64) (s : State) : Host.Outcome State Fault Refusal :=
  .next (s.respond statusOk (dataOfIdentifier (setVersion (unpack128 id) arg)))

/-- SET_VARIANT (R108): `id` with its variant set to `10`. -/
def execSetVariant (id : Word128) (s : State) : Host.Outcome State Fault Refusal :=
  .next (s.respond statusOk (dataOfIdentifier (setVariantRFC4122 (unpack128 id))))

end Sys2Proof.Machine
end

