-- ==== Sys2Proof/Machine/KeyedHash.lean ====
section
/-! DEFINITION. Keyed SipHash-2-4 masking engine (43_keyed_hash.md): the pseudorandom function PRF
(R170 to R175) and the command KEYED_HASH (R177). -/

namespace Sys2Proof.Machine

/-- The four 64-bit state words of SipHash (R171). -/
structure SipState where
  v0 : Word64
  v1 : Word64
  v2 : Word64
  v3 : Word64
deriving DecidableEq, Repr

/-- R171: initialization from the key halves as integers. -/
def sipInit (k0 k1 : Word64) : SipState where
  v0 := k0 ^^^ 0x736f6d6570736575#64
  v1 := k1 ^^^ 0x646f72616e646f6d#64
  v2 := k0 ^^^ 0x6c7967656e657261#64
  v3 := k1 ^^^ 0x7465646279746573#64

/-- R172: one SipRound, its assignments in the spec's order. -/
def sipRound (v : SipState) : SipState :=
  let v0 := v.v0 + v.v1
  let v1 := v.v1.rotateLeft 13
  let v1 := v1 ^^^ v0
  let v0 := v0.rotateLeft 32
  let v2 := v.v2 + v.v3
  let v3 := v.v3.rotateLeft 16
  let v3 := v3 ^^^ v2
  let v0 := v0 + v3
  let v3 := v3.rotateLeft 21
  let v3 := v3 ^^^ v0
  let v2 := v2 + v1
  let v1 := v1.rotateLeft 17
  let v1 := v1 ^^^ v2
  let v2 := v2.rotateLeft 32
  ⟨v0, v1, v2, v3⟩

/-- R173: the full words `m_i = LE64(M[8i .. 8i+7])`, `i` below `floor(n / 8)`. -/
def sipFullWords (M : List Byte) : List Word64 :=
  (List.range (M.length / 8)).map fun i => leWord ((M.drop (8 * i)).take 8)

/-- R173: the final word, the length modulo 256 in bits 63:56 over the remaining 0 to 7 bytes. -/
def sipFinalWord (M : List Byte) : Word64 :=
  BitVec.ofNat 64 (M.length % 256) <<< 56 ||| leWord (M.drop (8 * (M.length / 8)))

/-- R174: two rounds per message word. -/
def sipCompress (v : SipState) (m : Word64) : SipState :=
  let v := sipRound (sipRound { v with v3 := v.v3 ^^^ m })
  { v with v0 := v.v0 ^^^ m }

/-- R175: four rounds, then the exclusive or of the four words. -/
def sipFinalize (v : SipState) : Word64 :=
  let v := sipRound (sipRound (sipRound (sipRound { v with v2 := v.v2 ^^^ 0xff#64 })))
  v.v0 ^^^ v.v1 ^^^ v.v2 ^^^ v.v3

/-- PRF (R170): SipHash-2-4 of message `M` under key (`k0`, `k1`). -/
def prf (k0 k1 : Word64) (M : List Byte) : Word64 :=
  sipFinalize ((sipFullWords M ++ [sipFinalWord M]).foldl sipCompress (sipInit k0 k1))

/-- KEYED_HASH (R177): the hash of the first `len` bytes of `id`, zero-extended; a length above 10 ends
with BAD_LEN and data zero. -/
def execKeyedHash (id : Word128) (k0 k1 arg : Word64) (s : State) : Host.Outcome State Fault Refusal :=
  if lengthIsBad arg then .next (s.respondError statusBadLen)
  else .next (s.respond statusOk (dataOfScalar (prf k0 k1 (messageBytes id (argLength arg)))))

end Sys2Proof.Machine
end

