-- ==== Sys2Proof/Machine/MaskInput.lean ====
section
/-! DEFINITION. Masking-input builder (41_mask_input.md): the 10-byte canonical buffer of the 74 payload
bits (R130) and the command BUILD_MASK_INPUT (R134). -/

namespace Sys2Proof.Machine

/-- R130: byte 6's low nibble, byte 7, byte 8's low 6 bits, and bytes 9 to 15 verbatim. -/
def buildMaskInput (B : Bytes 16) : Bytes 10 :=
  #v[B[6] &&& 0x0F#8, B[7], B[8] &&& 0x3F#8, B[9], B[10], B[11], B[12], B[13], B[14], B[15]]

/-- BUILD_MASK_INPUT (R134): the buffer of `id`, left-aligned. -/
def execBuildMaskInput (id : Word128) (s : State) : Host.Outcome State Fault Refusal :=
  .next (s.respond statusOk (dataOfBuffer (buildMaskInput (unpack128 id))))

end Sys2Proof.Machine
end

