-- ==== Sys2Proof/Machine/Transform.lean ====
section
/-! DEFINITION. Transform (42_transform.md): the mask (R140), the common transform `T` (R141), encode and
decode (R142, R143), and the commands ENCODE and DECODE (R145, R146). `maskWith` and `transformWith` are
written over any pseudorandom function, because R179 lets a model make PRF a parameter; the machine uses
SipHash-2-4 (R170). -/

namespace Sys2Proof.Machine

/-- A keyed pseudorandom function `hash(k0, k1, message)` (R18, R179). -/
abbrev Prf := Word64 → Word64 → List Byte → Word64

/-- R140: the low 48 bits of the pseudorandom function over the canonical buffer of `B`. -/
def maskWith (f : Prf) (B : Bytes 16) (k0 k1 : Word64) : BitVec 48 :=
  (f k0 k1 (buildMaskInput B).toList).extractLsb' 0 48

/-- R141: TS exclusive-or the mask, then the version stamp `v` and the variant stamp. -/
def transformWith (f : Prf) (B : Bytes 16) (k0 k1 : Word64) (v : BitVec 4) : Bytes 16 :=
  let m := maskWith f B k0 k1
  let ts := readTimestamp48 B
  let B1 := writeTimestamp48 B ((ts ^^^ m).setWidth 64)
  let B2 := setVersion B1 (v.setWidth 64)
  setVariantRFC4122 B2

/-- `mask(B, k0, k1)` of the hardware (R140). -/
def mask (B : Bytes 16) (k0 k1 : Word64) : BitVec 48 := maskWith prf B k0 k1

/-- `encode(B, k0, k1) = T(B, k0, k1, 0x4)` (R142). -/
def encodeIdentifier (B : Bytes 16) (k0 k1 : Word64) : Bytes 16 := transformWith prf B k0 k1 0x4#4

/-- `decode(B, k0, k1) = T(B, k0, k1, 0x7)` (R143). -/
def decodeIdentifier (B : Bytes 16) (k0 k1 : Word64) : Bytes 16 := transformWith prf B k0 k1 0x7#4

/-- ENCODE (R145). -/
def execEncode (id : Word128) (k0 k1 : Word64) (s : State) : Host.Outcome State Fault Refusal :=
  .next (s.respond statusOk (dataOfIdentifier (encodeIdentifier (unpack128 id) k0 k1)))

/-- DECODE (R146). -/
def execDecode (id : Word128) (k0 k1 : Word64) (s : State) : Host.Outcome State Fault Refusal :=
  .next (s.respond statusOk (dataOfIdentifier (decodeIdentifier (unpack128 id) k0 k1)))

end Sys2Proof.Machine
end

