-- ==== Sys2Proof/Machine/Dispatch.lean ====
section
/-! DEFINITION. One arm per row of the opcode table: the completion edge of a request of that row (R39,
R79). An operand an operation ignores (R72, R82) is not passed to its meaning. -/

namespace Sys2Proof.Machine

def exec (i : Instr) (s : State) : Host.Outcome State Fault Refusal :=
  match i with
  | .encode id k0 k1 _ => Sys2Proof.Machine.execEncode id k0 k1 s
  | .decode id k0 k1 _ => Sys2Proof.Machine.execDecode id k0 k1 s
  | .readTs id _ _ _ => Sys2Proof.Machine.execReadTs id s
  | .writeTs id _ _ arg => Sys2Proof.Machine.execWriteTs id arg s
  | .setVersion id _ _ arg => Sys2Proof.Machine.execSetVersion id arg s
  | .setVariant id _ _ _ => Sys2Proof.Machine.execSetVariant id s
  | .buildMaskInput id _ _ _ => Sys2Proof.Machine.execBuildMaskInput id s
  | .keyedHash id k0 k1 arg => Sys2Proof.Machine.execKeyedHash id k0 k1 arg s
  | .reserved _ _ _ _ _ => Sys2Proof.Machine.execReserved s

end Sys2Proof.Machine
end

