-- ==== Sys2Proof/Machine/Edge.lean ====
section
/-! DEFINITION. One rising edge of `clk` (R39), for any latency function: the branches reset, completion,
in flight, accept and idle, in the spec's order. Around them stand the two things a model must refuse
(R234, R241) and the draws before the first reset (R234). -/

namespace Sys2Proof.Machine

/-- The idle block's edge (R39): accept an offered request, else change nothing. -/
def idleEdge (lat : OpCode → Nat) (p : Ports) (s : State) : Host.Outcome State Fault Refusal :=
  if p.reqValid = some 1#1 then
    match p.request with
    | .error port => .refused (.undriven port)
    | .ok r => .next (s.accept r (lat r.op))
  else .next s

/-- The busy block's edge (R39): complete when one edge is left, else count down. The completion runs the
instruction the latches hold. -/
def busyEdge (s : State) : Host.Outcome State Fault Refusal :=
  if s.cnt = 1 then exec (decodeRequest s.latched) s
  else if s.cnt = 0 then .fault .countExpired
  else .next s.countDown

/-- An edge without reset before the first reset (R234): no request is admitted, and every element is
drawn anew. -/
def preResetEdge (p : Ports) (s : State) : Host.Outcome State Fault Refusal :=
  if p.reqValid = some 1#1 then .refused .requestBeforeReset else .next s.redraw

/-- One rising edge (R39), under the latency function `lat` (R9). An edge at which `rst` is undriven, or
`req_valid` where it matters, is refused (R241). -/
def edge (lat : OpCode → Nat) (s : State) : Host.Outcome State Fault Refusal :=
  match s.nextPorts.rst with
  | none => .refused (.undriven .rst)
  | some r =>
    if s.reqValidMatters = true ∧ s.nextPorts.reqValid = none then .refused (.undriven .reqValid)
    else if r = 1#1 then .next s.popPorts.toReset
    else if s.wasReset = false then preResetEdge s.nextPorts s.popPorts
    else if s.busy = 1#1 then busyEdge s.popPorts
    else idleEdge lat s.nextPorts s.popPorts

end Sys2Proof.Machine
end

