-- ==== Sys2Proof/Machine/Step.lean ====
section
/-! DEFINITION. The machine's step: one rising edge under the implementation's latency (R9, R39), and the
placing of one instruction so that the very next step runs it. -/

namespace Sys2Proof.Machine

/-- One rising edge of `clk`. -/
def step (s : State) : Host.Outcome State Fault Refusal := edge Config.LAT s

/-- `s` with the request of the low `nbits` bits of `w` (numbered as spec/opcode_table.json numbers them)
in flight and due to complete at the next edge, and a quiet edge driven for it. -/
def State.withFetchWord (s : State) (nbits w : Nat) : State :=
  s.placeRequest (requestOfTableWord nbits w)

end Sys2Proof.Machine
end

