-- ==== Sys2Proof/Machine/Result.lean ====
section
/-! DEFINITION. The result function EXEC (R79): the response to a request as a pure function of the
request, written by operation code as the spec writes it. The machine's meanings do not use it; it is what
the spec's transaction-level rules speak of (R40), and what the meanings are compared with. -/

namespace Sys2Proof.Machine

/-- A response: what a completion puts on `rsp_status` and `rsp_data` (R19). -/
structure Response where
  status : BitVec 2
  data   : Word128
deriving DecidableEq, Repr

/-- `EXEC(op, id, k0, k1, arg)` (R79). -/
def EXEC (r : Request) : Response :=
  let B := unpack128 r.id
  match r.op with
  | 0x0#4 => ⟨statusOk, pack128 (encodeIdentifier B r.k0 r.k1)⟩
  | 0x1#4 => ⟨statusOk, pack128 (decodeIdentifier B r.k0 r.k1)⟩
  | 0x2#4 => ⟨statusOk, (readTimestamp48 B).setWidth 128⟩
  | 0x3#4 => ⟨statusOk, pack128 (writeTimestamp48 B r.arg)⟩
  | 0x4#4 => ⟨statusOk, pack128 (setVersion B r.arg)⟩
  | 0x5#4 => ⟨statusOk, pack128 (setVariantRFC4122 B)⟩
  | 0x6#4 => ⟨statusOk, pack80 (buildMaskInput B) ++ 0#48⟩
  | 0x7#4 =>
    let len := (r.arg.extractLsb' 0 8).toNat
    if 10 < len then ⟨statusBadLen, 0#128⟩
    else ⟨statusOk, (prf r.k0 r.k1 (B.toList.take len)).setWidth 128⟩
  | _ => ⟨statusIllegalOp, 0#128⟩

end Sys2Proof.Machine
end

