-- ==== Sys2Proof/Machine/Listing.lean ====
section
/-! DEFINITION. Command syntax for listings (R80) and its pseudo-instructions (R81), as data: which
requests a command line sends, and what the host drives at each edge for a listing of commands, RESET and
WAIT. Notation only: nothing of the block's behaviour rests on this file (R80, R81). -/

namespace Sys2Proof.Machine

/-- A command line of R80 or a pseudo-instruction of R81. -/
inductive Command where
  | encode (id : Word128) (k0 k1 : Word64)
  | decode (id : Word128) (k0 k1 : Word64)
  | readTs (id : Word128)
  | writeTs (id : Word128) (arg : Word64)
  | setVersion (id : Word128) (arg : Word64)
  | setVariant (id : Word128)
  | buildMaskInput (id : Word128)
  | keyedHash (id : Word128) (k0 k1 : Word64) (len : BitVec 8)
  | cmd (op : OpCode) (id : Word128) (k0 k1 arg : Word64)
  | hash10 (id : Word128) (k0 k1 : Word64)
  | mask (id : Word128) (k0 k1 : Word64)
deriving DecidableEq, Repr

/-- R81: the second request of `MASK`, from the first one's response data. -/
def maskSecondRequest (first : Word128) (k0 k1 : Word64) : Request := ⟨0x7#4, first, k0, k1, 10#64⟩

/-- The requests a command line sends, in order; a field the line omits is sent as 0 (R80, R81). The
second request of `MASK` carries the first one's response data, which is EXEC's (R40). -/
def Command.requests : Command → List Request
  | .encode id k0 k1 => [⟨0x0#4, id, k0, k1, 0#64⟩]
  | .decode id k0 k1 => [⟨0x1#4, id, k0, k1, 0#64⟩]
  | .readTs id => [⟨0x2#4, id, 0#64, 0#64, 0#64⟩]
  | .writeTs id arg => [⟨0x3#4, id, 0#64, 0#64, arg⟩]
  | .setVersion id arg => [⟨0x4#4, id, 0#64, 0#64, arg⟩]
  | .setVariant id => [⟨0x5#4, id, 0#64, 0#64, 0#64⟩]
  | .buildMaskInput id => [⟨0x6#4, id, 0#64, 0#64, 0#64⟩]
  | .keyedHash id k0 k1 len => [⟨0x7#4, id, k0, k1, len.setWidth 64⟩]
  | .cmd op id k0 k1 arg => [⟨op, id, k0, k1, arg⟩]
  | .hash10 id k0 k1 => [⟨0x7#4, id, k0, k1, 10#64⟩]
  | .mask id k0 k1 =>
    let first : Request := ⟨0x6#4, id, 0#64, 0#64, 0#64⟩
    [first, maskSecondRequest (EXEC first).data k0 k1]

/-- A line of a listing: a command, or one of the host actions RESET and WAIT (R80). -/
inductive HostAction where
  | command (c : Command)
  | reset
  | wait
deriving DecidableEq, Repr

/-- The quiet edges a WAIT lasts for a request of code `op`: `LAT(op)` of them (R236). -/
def waitEdges (lat : OpCode → Nat) (op : OpCode) : List Ports := List.replicate (lat op) Ports.quiet

/-- Offering `r` while a request of code `inFlight` has just been accepted and not been waited for: the
host keeps the offer up through the busy edges (R235) and the edge after them accepts it (R237). -/
def offerEdges (lat : OpCode → Nat) (inFlight : Option OpCode) (r : Request) : List Ports :=
  match inFlight with
  | none => [Ports.offer r]
  | some op => List.replicate (lat op) (Ports.offer r) ++ [Ports.offer r]

/-- The edges that send the requests of one line, each awaited but the last. -/
def driveRequests (lat : OpCode → Nat) (inFlight : Option OpCode) : List Request → List Ports
  | [] => []
  | [r] => offerEdges lat inFlight r
  | r :: rest => offerEdges lat inFlight r ++ waitEdges lat r.op ++ driveRequests lat none rest

/-- What the host drives at each edge for a listing; `inFlight` is the code of the last accepted request
nothing has waited for yet. RESET asserts `rst` for one edge (R80). -/
def driveListing (lat : OpCode → Nat) (inFlight : Option OpCode) : List HostAction → List Ports
  | [] => []
  | .reset :: rest => Ports.assertReset :: driveListing lat none rest
  | .wait :: rest =>
    match inFlight with
    | none => driveListing lat none rest
    | some op => waitEdges lat op ++ driveListing lat none rest
  | .command c :: rest =>
    driveRequests lat inFlight c.requests ++ driveListing lat (c.requests.getLast?.map (·.op)) rest

end Sys2Proof.Machine
end

