-- ==== Sys2Proof/Safety.lean ====
section
/-! DEFINITION. What claims about the block are stated in: which edges are driven (R241), what the next
edge will do, the invariant of the running block (R30, R31, R33, R38, R77), and the observation of a run
as (request, response) pairs (R40, R243). -/

namespace Sys2Proof.Machine

/-- The next edge is no reset and the block has been reset before: R39's other branches apply. -/
def State.running (s : State) : Prop := s.wasReset = true ∧ s.nextPorts.rst = some 0#1

/-- The next edge resets the block (R230). -/
def State.atReset (s : State) : Prop := s.nextPorts.rst = some 1#1

/-- The next edge completes the request in flight (R39). -/
def State.atCompletion (s : State) : Prop := s.running ∧ s.busy = 1#1 ∧ s.cnt = 1

/-- The next edge accepts request `r` (R39). -/
def State.atAccept (s : State) (r : Request) : Prop :=
  s.running ∧ s.busy = 0#1 ∧ s.nextPorts.reqValid = some 1#1 ∧ s.nextPorts.request = .ok r

/-- The ports that matter at the next edge are driven (R241): `rst`; `req_valid` where it matters; the operands
only where the edge accepts a request. -/
def State.inputsDriven (s : State) : Prop :=
  s.nextPorts.rst ≠ none ∧ (s.reqValidMatters = true → s.nextPorts.reqValid ≠ none) ∧
  (s.running → s.busy = 0#1 → s.nextPorts.reqValid = some 1#1 → ∃ r, s.nextPorts.request = .ok r)

/-- The latches are all zero: no key material is held (R33). -/
def State.latchesZero (s : State) : Prop :=
  s.latOp = 0#4 ∧ s.latId = 0#128 ∧ s.latK0 = 0#64 ∧ s.latK1 = 0#64 ∧ s.latArg = 0#64

/-- What holds of a block that has been reset (R30, R31, R33, R38, R77, R239). -/
structure State.Consistent (s : State) : Prop where
  /-- an idle block's latches are zero (R33) -/
  idleLatches : s.busy = 0#1 → s.latchesZero
  /-- an idle block counts nothing (R33, R39) -/
  idleCount   : s.busy = 0#1 → s.cnt = 0
  /-- a request in flight has at least one edge left and at most its latency (R39, R239) -/
  flightCount : s.busy = 1#1 → 1 ≤ s.cnt ∧ s.cnt ≤ Config.LAT s.latOp
  /-- while a request is in flight no response is shown as valid (R30, R39) -/
  flightValid : s.busy = 1#1 → s.rspValid = 0#1
  /-- 0b11 is never on `rsp_status` (R31, R76) -/
  statusLegal : s.rspStatus ≠ statusNeverProduced
  /-- a response that is not OK carries no data (R77) -/
  errorData   : s.rspStatus ≠ statusOk → s.rspData = 0#128

/-- The invariant of a block between power-up and ever after: once it has been reset, it is consistent.
Before the first reset nothing is known of it (R234). -/
def State.Inv (s : State) : Prop := s.wasReset = true → s.Consistent

/-- `t` is what `k` edges from `s` lead to, none of them stopping. -/
def RunsTo (k : Nat) (s t : State) : Prop := Sys2Proof.core.run k s = .next t

/-- No edge among the next `k` asserts reset. -/
def State.noResetFor (k : Nat) (s : State) : Prop :=
  ∀ p ∈ s.ports.take k, p.rst ≠ some 1#1

/-- None of the next `k` edges accepts a request (R39), as far as they are run. -/
def State.noAcceptFor (k : Nat) (s : State) : Prop :=
  ∀ j t, j < k → RunsTo j s t → ∀ r, ¬ t.atAccept r

/-- The request the next edge accepts, if it accepts one (R39). -/
def State.accepting (s : State) : Option Request :=
  if s.wasReset = true ∧ s.nextPorts.rst = some 0#1 ∧ s.busy = 0#1 ∧ s.nextPorts.reqValid = some 1#1 then
    s.nextPorts.request.toOption
  else none

/-- Whether the next edge completes the request in flight (R39). -/
def State.completing (s : State) : Bool :=
  s.wasReset && s.nextPorts.rst == some 0#1 && s.busy == 1#1 && s.cnt == 1

/-- The requests accepted in the next `k` edges, in order. -/
def acceptedIn : Nat → State → List Request
  | 0, _ => []
  | k + 1, s =>
    match step s with
    | .next t => s.accepting.toList ++ acceptedIn k t
    | .fault _ => []
    | .refused _ => []

/-- The (request, response) pairs of the next `k` edges, in order (R40, R243): at each completion, the
request the latches held and the response the completion left on the response ports. -/
def transcript : Nat → State → List (Request × Response)
  | 0, _ => []
  | k + 1, s =>
    match step s with
    | .next t =>
      if s.completing then (s.latched, ⟨t.rspStatus, t.rspData⟩) :: transcript k t else transcript k t
    | .fault _ => []
    | .refused _ => []

/-- The request in flight, if there is one; before the first reset there is none (R234). -/
def State.inFlight (s : State) : List Request :=
  if s.wasReset = true ∧ s.busy = 1#1 then [s.latched] else []

/-- The state a completion leaves behind (R39), written out in full: the response registers hold
(`status`, `data`) and `rsp_valid` = 1; `busy`, `cnt` and every latch are zero; the host's drive and the
model's own two fields are those of `s`. -/
def State.completed (s : State) (status : BitVec 2) (data : Word128) : State where
  rspValid  := 1#1
  rspStatus := status
  rspData   := data
  busy      := 0#1
  cnt       := 0
  latOp     := 0#4
  latId     := 0#128
  latK0     := 0#64
  latK1     := 0#64
  latArg    := 0#64
  ports     := s.ports
  wasReset  := s.wasReset
  draws     := s.draws

/-- The state an accepting edge leaves behind (R39), written out in full: request `r` is in flight with
`LAT(op)` edges left, `rsp_valid` = 0, and the last response is still on `rsp_status` and `rsp_data`. -/
def State.accepted (s : State) (r : Request) : State where
  rspValid  := 0#1
  rspStatus := s.rspStatus
  rspData   := s.rspData
  busy      := 1#1
  cnt       := Config.LAT r.op
  latOp     := r.op
  latId     := r.id
  latK0     := r.k0
  latK1     := r.k1
  latArg    := r.arg
  ports     := s.ports.tail
  wasReset  := s.wasReset
  draws     := s.draws

/-- R243: the run ends here: no request is in flight and the host offers none at any later edge. -/
def State.endOfRun (s : State) : Prop := s.busy = 0#1 ∧ ∀ p ∈ s.ports, p.reqValid = some 0#1

/-- What the host sees on the output ports (R29): `req_ready`, `rsp_valid`, `rsp_status`, `rsp_data`. -/
def State.outputs (s : State) : BitVec 1 × BitVec 1 × BitVec 2 × Word128 :=
  (s.reqReady, s.rspValid, s.rspStatus, s.rspData)

/-- Two drives of the input ports that agree on the control ports and the operation code at every edge,
whatever operands and keys they carry (R239). -/
def SameControl (a b : Ports) : Prop := a.rst = b.rst ∧ a.reqValid = b.reqValid ∧ a.reqOp = b.reqOp

/-- Two states that may differ only in data: in the latched and offered operands and keys and in the last
response, never in the handshake (R239). -/
structure SameTiming (s t : State) : Prop where
  busy     : s.busy = t.busy
  cnt      : s.cnt = t.cnt
  rspValid : s.rspValid = t.rspValid
  wasReset : s.wasReset = t.wasReset
  draws    : s.draws = t.draws
  ports    : List.Forall₂ SameControl s.ports t.ports

/-- R72: the two requests have the same code and agree on every field that operation reads. -/
def AgreeOnFieldsRead (a b : Request) : Prop :=
  a.op = b.op ∧
  match a.op with
  | 0x0#4 => a.id = b.id ∧ a.k0 = b.k0 ∧ a.k1 = b.k1
  | 0x1#4 => a.id = b.id ∧ a.k0 = b.k0 ∧ a.k1 = b.k1
  | 0x2#4 => a.id = b.id
  | 0x3#4 => a.id = b.id ∧ a.arg.extractLsb' 0 48 = b.arg.extractLsb' 0 48
  | 0x4#4 => a.id = b.id ∧ a.arg.extractLsb' 0 4 = b.arg.extractLsb' 0 4
  | 0x5#4 => a.id = b.id
  | 0x6#4 => a.id = b.id
  | 0x7#4 => a.k0 = b.k0 ∧ a.k1 = b.k1 ∧ a.arg.extractLsb' 0 8 = b.arg.extractLsb' 0 8 ∧
      ∀ i : Nat, (h : i < 16) → i < (a.arg.extractLsb' 0 8).toNat → (unpack128 a.id)[i] = (unpack128 b.id)[i]
  | _ => True

end Sys2Proof.Machine
end

