-- ==== Sys2Proof/Certificates/Slice0/Obligations.lean ====
section
/-! DEFINITION. The statements about the model, for the provers. Each docstring names the rule of spec/ it
formalises. Equations of the form `exec i s = .next (s.completed status data)` give the whole next state:
`State.completed` writes every field out, so they say the result, the frame and that the instruction
completes for every state and every operand. -/

open Sys2Proof Sys2Proof.Machine

/-! ### Encoding -/

/-- Every well-formed instruction, with every operand at every value (the ignored ones too), is what its
324-bit listing word decodes to (R70, R71, R75). -/
def Obligations.DecodeOfEncodeIsTheInstruction : Prop :=
  ∀ i : Instr, i.wf = true → Sys2Proof.decode (Sys2Proof.encode i) = i

/-- Every one of the 2^324 request words decodes to a well-formed instruction, and encoding that gives the
word back: decoding is total and each word has one meaning (R70, R83). -/
def Obligations.EncodeOfDecodeIsTheWord : Prop :=
  ∀ w : Reqw, (Sys2Proof.decode w).wf = true ∧ Sys2Proof.encode (Sys2Proof.decode w) = w

/-- R71: the opcode map, and that only `op` takes part in selecting the operation. -/
def Obligations.OperationIsSelectedByOpAlone : Prop :=
  ∀ (id : Word128) (k0 k1 arg : Word64),
    decodeRequest ⟨0x0#4, id, k0, k1, arg⟩ = .encode id k0 k1 arg ∧
    decodeRequest ⟨0x1#4, id, k0, k1, arg⟩ = .decode id k0 k1 arg ∧
    decodeRequest ⟨0x2#4, id, k0, k1, arg⟩ = .readTs id k0 k1 arg ∧
    decodeRequest ⟨0x3#4, id, k0, k1, arg⟩ = .writeTs id k0 k1 arg ∧
    decodeRequest ⟨0x4#4, id, k0, k1, arg⟩ = .setVersion id k0 k1 arg ∧
    decodeRequest ⟨0x5#4, id, k0, k1, arg⟩ = .setVariant id k0 k1 arg ∧
    decodeRequest ⟨0x6#4, id, k0, k1, arg⟩ = .buildMaskInput id k0 k1 arg ∧
    decodeRequest ⟨0x7#4, id, k0, k1, arg⟩ = .keyedHash id k0 k1 arg ∧
    ∀ op : OpCode, 0x8#4 ≤ op → decodeRequest ⟨op, id, k0, k1, arg⟩ = .reserved op id k0 k1 arg

/-- R83: of the rows of the opcode table exactly one matches the `op` bits 323:320 of any request word, and
it is the row of the instruction the word decodes to; the reserved row is match 0x8, mask 0x8. -/
def Obligations.EachWordMatchesExactlyOneTableRow : Prop :=
  (∀ w : Reqw, tableRowsOf (w.extractLsb' 320 4) = [(Sys2Proof.decode w).mnemonic]) ∧
    opcodeTable.length = 9 ∧ ("RESERVED", 0x8#4, 0x8#4) ∈ opcodeTable

/-- R70: the places of the fields in the listing word, and that the word is op, arg, k1, k0, id. -/
def Obligations.RequestWordFieldPositions : Prop :=
  ∀ r : Request,
    r.toWord = r.op ++ r.arg ++ r.k1 ++ r.k0 ++ r.id ∧
    r.toWord.extractLsb' 320 4 = r.op ∧ r.toWord.extractLsb' 256 64 = r.arg ∧
    r.toWord.extractLsb' 192 64 = r.k1 ∧ r.toWord.extractLsb' 128 64 = r.k0 ∧
    r.toWord.extractLsb' 0 128 = r.id

/-- Listing words of 95_test_vectors.md L3, written out there, decode to their commands (sanity). -/
def Obligations.PublishedListingWordsDecode : Prop :=
  Sys2Proof.decode 0x00000000000000000fedcba98765432100123456789abcdef018f2d9f9a2a7def8c3f7b1a2c4d5e6f#324 =
    .encode 0x018f2d9f9a2a7def8c3f7b1a2c4d5e6f#128 0x0123456789abcdef#64 0xfedcba9876543210#64 0#64 ∧
  Sys2Proof.decode 0x300002463c7807fca00000000000000000000000000000000018f2d9f9a2a7def8c3f7b1a2c4d5e6f#324 =
    .writeTs 0x018f2d9f9a2a7def8c3f7b1a2c4d5e6f#128 0#64 0#64 0x2463c7807fca#64 ∧
  Sys2Proof.decode 0x7000000000000010afedcba98765432100123456789abcdef018f2d9f9a2a7def8c3f7b1a2c4d5e6f#324 =
    .keyedHash 0x018f2d9f9a2a7def8c3f7b1a2c4d5e6f#128 0x0123456789abcdef#64 0xfedcba9876543210#64 0x10a#64 ∧
  Sys2Proof.decode 0x90000000000000000fedcba98765432100123456789abcdef018f2d9f9a2a7def8c3f7b1a2c4d5e6f#324 =
    .reserved 0x9#4 0x018f2d9f9a2a7def8c3f7b1a2c4d5e6f#128 0x0123456789abcdef#64 0xfedcba9876543210#64 0#64

/-! ### The commands -/

/-- R105: READ_TS is op 0b0010; it completes with OK and `rsp_data = 0^80 ++ id[127:80]`, whatever `k0`,
`k1` and `arg` are, and changes nothing else. -/
def Obligations.ReadTsReturnsTheTimestamp : Prop :=
  ∀ (id : Word128) (k0 k1 arg : Word64) (s : State),
    decodeRequest ⟨0b0010#4, id, k0, k1, arg⟩ = .readTs id k0 k1 arg ∧
    exec (.readTs id k0 k1 arg) s = .next (s.completed 0b00#2 (0#80 ++ id.extractLsb' 80 48))

/-- R106: WRITE_TS is op 0b0011; it completes with OK and `rsp_data = arg[47:0] ++ id[79:0]`. -/
def Obligations.WriteTsReplacesTheTimestamp : Prop :=
  ∀ (id : Word128) (k0 k1 arg : Word64) (s : State),
    decodeRequest ⟨0b0011#4, id, k0, k1, arg⟩ = .writeTs id k0 k1 arg ∧
    exec (.writeTs id k0 k1 arg) s =
      .next (s.completed 0b00#2 (arg.extractLsb' 0 48 ++ id.extractLsb' 0 80))

/-- R107: SET_VERSION is op 0b0100; it completes with OK and
`rsp_data = id[127:80] ++ arg[3:0] ++ id[75:0]`. -/
def Obligations.SetVersionReplacesTheVersion : Prop :=
  ∀ (id : Word128) (k0 k1 arg : Word64) (s : State),
    decodeRequest ⟨0b0100#4, id, k0, k1, arg⟩ = .setVersion id k0 k1 arg ∧
    exec (.setVersion id k0 k1 arg) s =
      .next (s.completed 0b00#2 (id.extractLsb' 80 48 ++ arg.extractLsb' 0 4 ++ id.extractLsb' 0 76))

/-- R108: SET_VARIANT is op 0b0101; it completes with OK and
`rsp_data = id[127:64] ++ 0b10 ++ id[61:0]`. -/
def Obligations.SetVariantStampsTheVariant : Prop :=
  ∀ (id : Word128) (k0 k1 arg : Word64) (s : State),
    decodeRequest ⟨0b0101#4, id, k0, k1, arg⟩ = .setVariant id k0 k1 arg ∧
    exec (.setVariant id k0 k1 arg) s =
      .next (s.completed 0b00#2 (id.extractLsb' 64 64 ++ 0b10#2 ++ id.extractLsb' 0 62))

/-- R134: BUILD_MASK_INPUT is op 0b0110; it completes with OK,
`rsp_data[127:48] = id[79:0] & 0x0FFF_3FFF_FFFF_FFFF_FFFF` and `rsp_data[47:0] = 0`. -/
def Obligations.BuildMaskInputReturnsTheBuffer : Prop :=
  ∀ (id : Word128) (k0 k1 arg : Word64) (s : State),
    decodeRequest ⟨0b0110#4, id, k0, k1, arg⟩ = .buildMaskInput id k0 k1 arg ∧
    exec (.buildMaskInput id k0 k1 arg) s =
      .next (s.completed 0b00#2 ((id.extractLsb' 0 80 &&& 0x0FFF3FFFFFFFFFFFFFFF#80) ++ 0#48))

/-- R145: ENCODE is op 0b0000; it completes with OK and
`rsp_data = (id[127:80] ^ m) ++ 0x4 ++ id[75:64] ++ 0b10 ++ id[61:0]`, `m` the mask of `id` under the key. -/
def Obligations.EncodeMasksAndStampsVersionFour : Prop :=
  ∀ (id : Word128) (k0 k1 arg : Word64) (s : State),
    decodeRequest ⟨0b0000#4, id, k0, k1, arg⟩ = .encode id k0 k1 arg ∧
    exec (.encode id k0 k1 arg) s =
      .next (s.completed 0b00#2
        ((id.extractLsb' 80 48 ^^^ mask (unpack128 id) k0 k1) ++ 0x4#4 ++ id.extractLsb' 64 12 ++
          0b10#2 ++ id.extractLsb' 0 62))

/-- R146: DECODE is op 0b0001; it completes with OK and
`rsp_data = (id[127:80] ^ m) ++ 0x7 ++ id[75:64] ++ 0b10 ++ id[61:0]`, `m` the mask of `id` under the key. -/
def Obligations.DecodeUnmasksAndStampsVersionSeven : Prop :=
  ∀ (id : Word128) (k0 k1 arg : Word64) (s : State),
    decodeRequest ⟨0b0001#4, id, k0, k1, arg⟩ = .decode id k0 k1 arg ∧
    exec (.decode id k0 k1 arg) s =
      .next (s.completed 0b00#2
        ((id.extractLsb' 80 48 ^^^ mask (unpack128 id) k0 k1) ++ 0x7#4 ++ id.extractLsb' 64 12 ++
          0b10#2 ++ id.extractLsb' 0 62))

/-- R177: KEYED_HASH is op 0b0111, its length `arg[7:0]`; a length of at most 10 completes with OK and the
hash of the bytes `id[0..len-1]` zero-extended (byte `i` is `id[127-8i : 120-8i]`), a greater one with
BAD_LEN and zero. -/
def Obligations.KeyedHashHashesTheFirstBytes : Prop :=
  ∀ (id : Word128) (k0 k1 arg : Word64) (s : State),
    decodeRequest ⟨0b0111#4, id, k0, k1, arg⟩ = .keyedHash id k0 k1 arg ∧
    exec (.keyedHash id k0 k1 arg) s =
      .next (if 10 < (arg.extractLsb' 0 8).toNat then s.completed 0b10#2 0#128
        else s.completed 0b00#2 (0#64 ++
          prf k0 k1 ((List.range (arg.extractLsb' 0 8).toNat).map fun i => id.extractLsb' (120 - 8 * i) 8)))

/-- R75, R201: a request with a reserved code 0x8 to 0xF completes with ILLEGAL_OP and data zero, whatever
its operands, and changes nothing else. -/
def Obligations.ReservedCodesCompleteWithIllegalOp : Prop :=
  ∀ (op : OpCode) (id : Word128) (k0 k1 arg : Word64) (s : State), 0x8#4 ≤ op →
    exec (decodeRequest ⟨op, id, k0, k1, arg⟩) s = exec (.reserved op id k0 k1 arg) s ∧
    exec (.reserved op id k0 k1 arg) s = .next (s.completed 0b01#2 0#128)

/-- R79: what the machine does at a completion is what the result function EXEC says, for every request. -/
def Obligations.CompletionComputesTheResultFunction : Prop :=
  ∀ (r : Request) (s : State),
    exec (decodeRequest r) s = .next (s.completed (EXEC r).status (EXEC r).data)

/-- R76, R77: the status of every request, that 0b11 is never produced, and that data is zero whenever the
status is not OK. -/
def Obligations.StatusIsAsTabulatedAndErrorsCarryNoData : Prop :=
  ∀ r : Request,
    ((EXEC r).status = 0b00#2 ↔ r.op ≤ 0x6#4 ∨ (r.op = 0x7#4 ∧ (r.arg.extractLsb' 0 8).toNat ≤ 10)) ∧
    ((EXEC r).status = 0b01#2 ↔ 0x8#4 ≤ r.op) ∧
    ((EXEC r).status = 0b10#2 ↔ r.op = 0x7#4 ∧ 11 ≤ (r.arg.extractLsb' 0 8).toNat) ∧
    (EXEC r).status ≠ 0b11#2 ∧
    ((EXEC r).status ≠ 0b00#2 → (EXEC r).data = 0#128)

/-- R82: two requests of the same code that agree on every field the operation reads (R72) have the same
response and the same effect on the machine. -/
def Obligations.IgnoredFieldsAreDontCare : Prop :=
  ∀ (a b : Request) (s : State), AgreeOnFieldsRead a b →
    EXEC a = EXEC b ∧ exec (decodeRequest a) s = exec (decodeRequest b) s

/-! ### Identifier fields, accessors and the canonical buffer -/

/-- R24: the five field functions on bytes are the bit ranges of the packed identifier. -/
def Obligations.FieldsAreTheirBitRanges : Prop :=
  ∀ I : Word128,
    fieldTs (unpack128 I) = I.extractLsb' 80 48 ∧ fieldVer (unpack128 I) = I.extractLsb' 76 4 ∧
    fieldPa (unpack128 I) = I.extractLsb' 64 12 ∧ fieldVar (unpack128 I) = I.extractLsb' 62 2 ∧
    fieldPb (unpack128 I) = I.extractLsb' 0 62

/-- R23: every bit belongs to exactly one field: the packed identifier is the five fields side by side, and
any five field values make an identifier with those fields. -/
def Obligations.FieldsPartitionTheIdentifier : Prop :=
  (∀ B : Bytes 16, pack128 B = fieldTs B ++ fieldVer B ++ fieldPa B ++ fieldVar B ++ fieldPb B) ∧
  ∀ (t : BitVec 48) (v : BitVec 4) (a : BitVec 12) (w : BitVec 2) (b : BitVec 62), ∃ B : Bytes 16,
    fieldTs B = t ∧ fieldVer B = v ∧ fieldPa B = a ∧ fieldVar B = w ∧ fieldPb B = b

/-- R104: the frame laws (a) to (i) of the accessor functions. -/
def Obligations.AccessorsChangeOnlyTheirField : Prop :=
  ∀ (B : Bytes 16) (v w : Word64),
    (fieldVer (writeTimestamp48 B v) = fieldVer B ∧ fieldPa (writeTimestamp48 B v) = fieldPa B ∧
      fieldVar (writeTimestamp48 B v) = fieldVar B ∧ fieldPb (writeTimestamp48 B v) = fieldPb B) ∧
    (fieldTs (setVersion B v) = fieldTs B ∧ fieldPa (setVersion B v) = fieldPa B ∧
      fieldVar (setVersion B v) = fieldVar B ∧ fieldPb (setVersion B v) = fieldPb B) ∧
    (fieldTs (setVariantRFC4122 B) = fieldTs B ∧ fieldVer (setVariantRFC4122 B) = fieldVer B ∧
      fieldPa (setVariantRFC4122 B) = fieldPa B ∧ fieldPb (setVariantRFC4122 B) = fieldPb B) ∧
    readTimestamp48 (writeTimestamp48 B v) = v.extractLsb' 0 48 ∧
    fieldVer (setVersion B v) = v.extractLsb' 0 4 ∧
    fieldVar (setVariantRFC4122 B) = 0b10#2 ∧
    writeTimestamp48 (setVersion B w) v = setVersion (writeTimestamp48 B v) w ∧
    writeTimestamp48 (setVariantRFC4122 B) v = setVariantRFC4122 (writeTimestamp48 B v) ∧
    setVersion (setVariantRFC4122 B) w = setVariantRFC4122 (setVersion B w) ∧
    writeTimestamp48 (writeTimestamp48 B v) v = writeTimestamp48 B v ∧
    setVersion (setVersion B w) w = setVersion B w ∧
    setVariantRFC4122 (setVariantRFC4122 B) = setVariantRFC4122 B

/-- R131: the buffer of an identifier as an 80-bit number, in both of the rule's forms. -/
def Obligations.MaskInputIsTheMaskedPayload : Prop :=
  ∀ I : Word128,
    pack80 (buildMaskInput (unpack128 I)) = 0b0000#4 ++ I.extractLsb' 64 12 ++ 0b00#2 ++ I.extractLsb' 0 62 ∧
    pack80 (buildMaskInput (unpack128 I)) = I.extractLsb' 0 80 &&& 0x0FFF3FFFFFFFFFFFFFFF#80

/-- R132: version, variant and timestamp do not reach the buffer; it depends on PA and PB only. -/
def Obligations.MaskInputIgnoresVersionVariantTimestamp : Prop :=
  ∀ (B C : Bytes 16) (v w : Word64),
    buildMaskInput (setVersion B v) = buildMaskInput B ∧
    buildMaskInput (setVariantRFC4122 B) = buildMaskInput B ∧
    buildMaskInput (writeTimestamp48 B w) = buildMaskInput B ∧
    (fieldPa B = fieldPa C → fieldPb B = fieldPb C → buildMaskInput B = buildMaskInput C)

/-- R133: equal buffers mean equal payloads and the other way round, and the buffers that occur are exactly
those with zero pad bits. -/
def Obligations.MaskInputDeterminesThePayload : Prop :=
  (∀ B C : Bytes 16, buildMaskInput B = buildMaskInput C ↔ fieldPa B = fieldPa C ∧ fieldPb B = fieldPb C) ∧
  ∀ buf : Bytes 10, (∃ B : Bytes 16, buildMaskInput B = buf) ↔
    buf[0].extractLsb' 4 4 = 0#4 ∧ buf[2].extractLsb' 6 2 = 0#2

/-! ### The keyed hash and the transform -/

/-- R173: the words of a message: full word `i` holds bytes 8i to 8i+7, byte 8i in its low end; the final
word holds the length modulo 256 in its top byte, the remaining bytes from its low end, and zeros between. -/
def Obligations.MessageWordsHoldTheMessageBytes : Prop :=
  ∀ M : List Byte,
    (sipFullWords M).length = M.length / 8 ∧
    (∀ i j : Nat, (hj : j < 8) → (hi : i < M.length / 8) →
      (sipFullWords M)[i]?.map (·.extractLsb' (8 * j) 8) = M[8 * i + j]?) ∧
    (sipFinalWord M).extractLsb' 56 8 = BitVec.ofNat 8 M.length ∧
    ∀ j : Nat, j < 7 → (sipFinalWord M).extractLsb' (8 * j) 8 =
      (M[8 * (M.length / 8) + j]?).getD 0#8

/-- R172: one SipRound, each rotation written as the two shifts of R11. -/
def Obligations.SipRoundIsTheAddRotateXorSequence : Prop :=
  ∀ a b c d : Word64,
    let rot : Word64 → Nat → Word64 := fun x n => x <<< n ||| x >>> (64 - n)
    let a1 := a + b
    let b1 := rot b 13 ^^^ a1
    let c1 := c + d
    let d1 := rot d 16 ^^^ c1
    let a2 := rot a1 32 + d1
    let d2 := rot d1 21 ^^^ a2
    let c2 := c1 + b1
    let b2 := rot b1 17 ^^^ c2
    sipRound ⟨a, b, c, d⟩ = ⟨a2, b2, rot c2 32, d2⟩

/-- R171, R174, R175 on a message of fewer than 8 bytes, which has the one word of R173 whose top byte is the
length: initialization with the four constants, two rounds for the word, four rounds to finish, and the
exclusive or of the four words. -/
def Obligations.HashOfAShortMessage : Prop :=
  ∀ (k0 k1 : Word64) (M : List Byte), M.length < 8 →
    let m : Word64 := BitVec.ofNat 64 M.length <<< 56 ||| leWord M
    let v := sipRound (sipRound ⟨k0 ^^^ 0x736f6d6570736575#64, k1 ^^^ 0x646f72616e646f6d#64,
      k0 ^^^ 0x6c7967656e657261#64, k1 ^^^ 0x7465646279746573#64 ^^^ m⟩)
    let u := sipRound (sipRound (sipRound (sipRound ⟨v.v0 ^^^ m, v.v1, v.v2 ^^^ 0xff#64, v.v3⟩)))
    prf k0 k1 M = u.v0 ^^^ u.v1 ^^^ u.v2 ^^^ u.v3

/-- R176: the hash of the canonical buffer: one full word and one final word, in terms of the identifier's
bytes; initialization, two compressions, finalization. -/
def Obligations.HashOfTheCanonicalBuffer : Prop :=
  ∀ (B : Bytes 16) (k0 k1 : Word64),
    let x : Nat → Byte → Word64 := fun n b => b.setWidth 64 <<< n
    let m0 : Word64 := x 56 B[13] ||| x 48 B[12] ||| x 40 B[11] ||| x 32 B[10] ||| x 24 B[9] |||
      x 16 (B[8] &&& 0x3F#8) ||| x 8 B[7] ||| x 0 (B[6] &&& 0x0F#8)
    let b : Word64 := 0x0A00000000000000#64 ||| x 8 B[15] ||| x 0 B[14]
    prf k0 k1 (buildMaskInput B).toList = sipFinalize (sipCompress (sipCompress (sipInit k0 k1) m0) b)

/-- R141: the 128-bit form of the common transform, for any pseudorandom function (R179) and any stamp. -/
def Obligations.TransformMasksTheTimestampAndStamps : Prop :=
  ∀ (f : Prf) (I : Word128) (k0 k1 : Word64) (v : BitVec 4),
    pack128 (transformWith f (unpack128 I) k0 k1 v) =
      (I.extractLsb' 80 48 ^^^ maskWith f (unpack128 I) k0 k1) ++ v ++ I.extractLsb' 64 12 ++ 0b10#2 ++
        I.extractLsb' 0 62

/-- R147: the transform leaves the 74 payload bits alone, bytes 7 and 9 to 15 whole; for any pseudorandom
function (R179). -/
def Obligations.TransformPreservesThePayload : Prop :=
  ∀ (f : Prf) (B : Bytes 16) (k0 k1 : Word64) (v : BitVec 4),
    fieldPa (transformWith f B k0 k1 v) = fieldPa B ∧ fieldPb (transformWith f B k0 k1 v) = fieldPb B ∧
    (transformWith f B k0 k1 v)[7] = B[7] ∧
    ∀ i : Nat, (h : i < 16) → 9 ≤ i → (transformWith f B k0 k1 v)[i] = B[i]

/-- R148: encode stamps version 4, decode version 7, both variant 10, whatever the input carried. -/
def Obligations.EncodeAndDecodeStampVersionAndVariant : Prop :=
  ∀ (B : Bytes 16) (k0 k1 : Word64),
    fieldVer (encodeIdentifier B k0 k1) = 0x4#4 ∧ fieldVer (decodeIdentifier B k0 k1) = 0x7#4 ∧
    fieldVar (encodeIdentifier B k0 k1) = 0b10#2 ∧ fieldVar (decodeIdentifier B k0 k1) = 0b10#2

/-- R149 (with 90_conflicts.md C2): decode after encode restores everything but the stamps, and is the
identity exactly on version 7 with variant 10; encode after decode symmetrically. -/
def Obligations.DecodeInvertsEncode : Prop :=
  ∀ (B : Bytes 16) (k0 k1 : Word64),
    decodeIdentifier (encodeIdentifier B k0 k1) k0 k1 = setVariantRFC4122 (setVersion B 0x7#64) ∧
    (decodeIdentifier (encodeIdentifier B k0 k1) k0 k1 = B ↔ fieldVer B = 0x7#4 ∧ fieldVar B = 0b10#2) ∧
    encodeIdentifier (decodeIdentifier B k0 k1) k0 k1 = setVariantRFC4122 (setVersion B 0x4#64)

/-- R150, R151: the mask does not change under the transform, and transforming twice under one key gives the
timestamp back, for all stamps and any pseudorandom function (R179). -/
def Obligations.TransformTwiceRestoresTheTimestamp : Prop :=
  ∀ (f : Prf) (B : Bytes 16) (k0 k1 : Word64) (v w : BitVec 4),
    maskWith f (transformWith f B k0 k1 v) k0 k1 = maskWith f B k0 k1 ∧
    fieldTs (transformWith f (transformWith f B k0 k1 v) k0 k1 w) = fieldTs B ∧
    fieldVer (transformWith f (transformWith f B k0 k1 v) k0 k1 w) = w

/-- R152: decode under another key restores a well-formed time-ordered identifier exactly when the two keys
give it the same mask. -/
def Obligations.WrongKeyRestoresExactlyOnEqualMasks : Prop :=
  ∀ (B : Bytes 16) (k0 k1 j0 j1 : Word64), fieldVer B = 0x7#4 → fieldVar B = 0b10#2 →
    (decodeIdentifier (encodeIdentifier B k0 k1) j0 j1 ≠ B ↔ mask B k0 k1 ≠ mask B j0 j1)

/-- R81: the two requests of MASK give the mask in the low 48 bits of the second response. -/
def Obligations.MaskPseudoInstructionYieldsTheMask : Prop :=
  ∀ (id : Word128) (k0 k1 : Word64),
    ∃ a b : Request, Command.requests (.mask id k0 k1) = [a, b] ∧
      decodeRequest a = .buildMaskInput id 0#64 0#64 0#64 ∧
      decodeRequest b = .keyedHash (EXEC a).data k0 k1 10#64 ∧
      (EXEC b).status = 0b00#2 ∧
      (EXEC b).data.extractLsb' 0 48 = mask (unpack128 id) k0 k1

/-- The primitive commands, chained by a host that exclusive-ors the mask itself, give ENCODE's result, for
every identifier and key (R141, R142; program P2 of 95_test_vectors.md in general). -/
def Obligations.PrimitiveCommandsComposeToEncode : Prop :=
  ∀ (id : Word128) (k0 k1 : Word64),
    let r1 := (EXEC ⟨0x6#4, id, 0#64, 0#64, 0#64⟩).data
    let r2 := (EXEC ⟨0x7#4, r1, k0, k1, 10#64⟩).data
    let r3 := (EXEC ⟨0x2#4, id, 0#64, 0#64, 0#64⟩).data
    let ts : BitVec 48 := r3.extractLsb' 0 48 ^^^ r2.extractLsb' 0 48
    let r4 := (EXEC ⟨0x3#4, id, 0#64, 0#64, ts.setWidth 64⟩).data
    let r5 := (EXEC ⟨0x4#4, r4, 0#64, 0#64, 4#64⟩).data
    let r6 := (EXEC ⟨0x5#4, r5, 0#64, 0#64, 0#64⟩).data
    r6 = (EXEC ⟨0x0#4, id, k0, k1, 0#64⟩).data

/-! ### The clock edge -/

/-- R39: what a clock edge does to a block that has been reset, branch by branch, each under the ports that
matter at that edge (R241) and no others: a reset (`req_valid` driven if `busy` = 0), a completion and a
countdown (nothing but `rst`), an accept (the operands too), an idle edge (the operands may be undriven). The
last clause is the idle edge past the end of the host's drive, which the model makes quiet (log entry 2). -/
def Obligations.ClockEdgeTakesTheBranchOfTheRule : Prop :=
  ∀ s : State, s.wasReset = true →
    (s.nextPorts.rst = some 1#1 → (s.busy = 0#1 → s.nextPorts.reqValid ≠ none) → step s = .next
      { rspValid := 0#1, rspStatus := 0b00#2, rspData := 0#128, busy := 0#1, cnt := 0, latOp := 0#4,
        latId := 0#128, latK0 := 0#64, latK1 := 0#64, latArg := 0#64, ports := s.ports.tail, wasReset := true,
        draws := s.draws }) ∧
    (s.nextPorts.rst = some 0#1 → s.busy = 1#1 → s.cnt = 1 → step s = .next
      { rspValid := 1#1, rspStatus := (EXEC s.latched).status, rspData := (EXEC s.latched).data,
        busy := 0#1, cnt := 0, latOp := 0#4, latId := 0#128, latK0 := 0#64, latK1 := 0#64,
        latArg := 0#64, ports := s.ports.tail, wasReset := true, draws := s.draws }) ∧
    (s.nextPorts.rst = some 0#1 → s.busy = 1#1 → 1 < s.cnt → step s = .next
      { s with cnt := s.cnt - 1, ports := s.ports.tail }) ∧
    (∀ r : Request, s.nextPorts.rst = some 0#1 → s.busy = 0#1 → s.nextPorts.reqValid = some 1#1 →
      s.nextPorts.request = .ok r → step s = .next
      { s with latOp := r.op, latId := r.id, latK0 := r.k0, latK1 := r.k1, latArg := r.arg, busy := 1#1,
               cnt := Config.LAT r.op, rspValid := 0#1, ports := s.ports.tail }) ∧
    (s.nextPorts.rst = some 0#1 → s.busy = 0#1 → s.nextPorts.reqValid = some 0#1 → step s = .next
      { s with ports := s.ports.tail }) ∧
    (s.ports = [] → s.busy = 0#1 → step s = .next s)

/-- A step runs the decoded instruction: where the word of the latched request decodes to a well-formed
instruction and one edge is left, the step is `exec` of that instruction on the state after the host's
entry for this edge is taken off (R39, R40). -/
def Obligations.StepRunsTheDecodedInstruction : Prop :=
  ∀ (s : State) (i : Instr), s.atCompletion → Sys2Proof.decode s.latched.toWord = i → i.wf = true →
    step s = exec i { s with ports := s.ports.tail }

/-- The placing of an instruction (log entry 6, the model's own): the very next step runs exactly it. -/
def Obligations.PlacedInstructionRunsNext : Prop :=
  ∀ (s : State) (nbits w : Nat) (i : Instr), decodeTableWord nbits w = some i →
    ∃ t : State, step (s.withFetchWord nbits w) = exec i t ∧ t.ports = s.ports ∧ t.latched = i.toRequest ∧
      t.rspStatus = s.rspStatus ∧ t.rspData = s.rspData ∧ t.draws = s.draws

/-- R230: at an edge with `rst` = 1 every element takes its reset value, whatever the state and the values on
the other inputs are, also before the first reset; a request in flight or offered is gone. The one premise is
R241's: `req_valid` is driven where it matters. -/
def Obligations.ResetEdgeClearsEverything : Prop :=
  ∀ s : State, s.nextPorts.rst = some 1#1 → (s.reqValidMatters = true → s.nextPorts.reqValid ≠ none) →
    step s = .next { rspValid := 0#1, rspStatus := 0b00#2, rspData := 0#128, busy := 0#1, cnt := 0,
                     latOp := 0#4, latId := 0#128, latK0 := 0#64, latK1 := 0#64, latArg := 0#64,
                     ports := s.ports.tail, wasReset := true, draws := s.draws }

/-- R241: an edge at which a port that matters is undriven is refused: `rst` at every edge, `req_valid` at
every edge with `busy` = 0, each operand at an accepting edge. Before the first reset `busy` is unspecified and
`req_valid` counts as mattering (log entry 9, the model's own). -/
def Obligations.UndrivenInputsThatMatterAreRefused : Prop :=
  ∀ s : State,
    (s.nextPorts.rst = none → step s = .refused (.undriven .rst)) ∧
    (s.nextPorts.rst ≠ none → s.busy = 0#1 ∨ s.wasReset = false → s.nextPorts.reqValid = none →
      step s = .refused (.undriven .reqValid)) ∧
    (s.running → s.busy = 0#1 → s.nextPorts.reqValid = some 1#1 →
      (s.nextPorts.reqOp = none ∨ s.nextPorts.reqId = none ∨ s.nextPorts.reqK0 = none ∨
        s.nextPorts.reqK1 = none ∨ s.nextPorts.reqArg = none) →
      ∃ port, step s = .refused (.undriven port))

/-- R64, R235: while a request is in flight, what the host drives on every port but `rst` has no effect: not
on the edge's outcome, and an edge that does not complete keeps the latched request. -/
def Obligations.OffersWhileBusyHaveNoEffect : Prop :=
  ∀ (s : State) (p q : Ports) (rest : List Ports), s.wasReset = true → s.busy = 1#1 → p.rst = some 0#1 →
    q.rst = some 0#1 →
    step { s with ports := p :: rest } = step { s with ports := q :: rest } ∧
    ∀ t, step { s with ports := p :: rest } = .next t → s.cnt ≠ 1 → t.latched = s.latched ∧ t.busy = 1#1

/-- R234: before the first reset an offered request is refused. An edge with no offer draws every element of
R30 to R33 anew; that it does so at every such edge, and that no branch of R39 runs on the drawn values, is
the model's choice (log entry 4). -/
def Obligations.NoRequestBeforeTheFirstReset : Prop :=
  ∀ s : State, s.wasReset = false → s.nextPorts.rst = some 0#1 →
    (s.nextPorts.reqValid = some 1#1 → step s = .refused .requestBeforeReset) ∧
    (s.nextPorts.reqValid = some 0#1 → step s = .next
      { rspValid := Config.drawRspValid s.draws, rspStatus := Config.drawRspStatus s.draws,
        rspData := Config.drawRspData s.draws, busy := Config.drawBusy s.draws, cnt := Config.drawCnt s.draws,
        latOp := Config.drawLatOp s.draws, latId := Config.drawLatId s.draws,
        latK0 := Config.drawLatK0 s.draws, latK1 := Config.drawLatK1 s.draws,
        latArg := Config.drawLatArg s.draws, ports := s.ports.tail, wasReset := false,
        draws := s.draws + 1 })

/-- R232, R233: from power-up one reset edge is enough: the next edge accepts an offered request, whatever
the draws were. -/
def Obligations.FirstEdgeAfterResetAccepts : Prop :=
  ∀ (r : Request) (rest : List Ports),
    RunsTo 2 (State.powerUp (Ports.assertReset :: Ports.offer r :: rest))
      (({ State.reset with ports := Ports.offer r :: rest, draws := 1 } : State).accepted r)

/-! ### Whole-machine rules -/

/-- The reset state, with any drive to come, and the power-up state meet the invariant (R38, R234). -/
def Obligations.InvHoldsAfterResetAndAtPowerUp : Prop :=
  ∀ drive : List Ports, ({ State.reset with ports := drive } : State).Inv ∧
    ({ State.reset with ports := drive } : State).Consistent ∧ (State.powerUp drive).Inv

/-- Every step keeps the invariant: latches and count zero when idle, the count within the latency in flight,
`rsp_valid` low in flight, status legal, no data with an error (R30, R31, R33, R77). -/
def Obligations.StepKeepsTheInvariant : Prop :=
  ∀ s t : State, s.Inv → step s = .next t → t.Inv

/-- R200, R241: the block never faults; after a reset an edge answers a next state exactly when the ports that
matter at it are driven; and a refusal is only ever one of R241 or R234. -/
def Obligations.BlockNeverFaultsAndAlwaysAdvances : Prop :=
  ∀ s : State, s.Inv →
    (∀ e, step s ≠ .fault e) ∧
    (s.wasReset = true → (s.inputsDriven ↔ ∃ t, step s = .next t)) ∧
    (∀ e, step s = .refused e → (∃ port, e = .undriven port) ∨ (e = .requestBeforeReset ∧ s.wasReset = false))

/-- R31, R32: `rsp_status` and `rsp_data` are written only at completion and at reset. -/
def Obligations.ResponseWrittenOnlyAtCompletionOrReset : Prop :=
  ∀ s t : State, s.wasReset = true → step s = .next t →
    (t.rspStatus ≠ s.rspStatus ∨ t.rspData ≠ s.rspData) → s.atReset ∨ s.atCompletion

/-- R30, R34: `rsp_valid` rises only at a completion and falls only at an accept or a reset; `busy` rises
only at an accept, which needs `req_ready` = 1, and falls only at a completion or a reset. -/
def Obligations.HandshakeFlagsChangeOnlyAtTheirEvents : Prop :=
  ∀ s t : State, s.wasReset = true → step s = .next t →
    (s.rspValid = 0#1 → t.rspValid = 1#1 → s.atCompletion) ∧
    (s.rspValid = 1#1 → t.rspValid = 0#1 → s.atReset ∨ ∃ r, s.atAccept r) ∧
    (s.busy = 0#1 → t.busy = 1#1 → s.reqReady = 1#1 ∧ ∃ r, s.atAccept r ∧ t = s.accepted r) ∧
    (s.busy = 1#1 → t.busy = 0#1 → s.reqReady = 0#1 ∧ (s.atReset ∨ s.atCompletion))

/-- A request in flight with `cnt` edges left completes after exactly that many edges without reset, whatever
else the host drives, with the response EXEC gives it (R39, R242: nothing the host does can stop it). -/
def Obligations.RequestInFlightCompletesOnTime : Prop :=
  ∀ s : State, s.wasReset = true → s.busy = 1#1 → 1 ≤ s.cnt →
    (∀ p ∈ s.ports.take s.cnt, p.rst = some 0#1) →
    RunsTo s.cnt s
      (({ s with ports := s.ports.drop s.cnt } : State).completed (EXEC s.latched).status
        (EXEC s.latched).data)

/-- R40, R239: a request accepted at an edge gets exactly EXEC of the values on the ports at that edge as its
response, `LAT(op)` edges later, for every latency function; the state then is fully known. -/
def Obligations.AcceptedRequestIsAnsweredAfterItsLatency : Prop :=
  ∀ (s : State) (r : Request), s.atAccept r →
    (∀ p ∈ (s.ports.drop 1).take (Config.LAT r.op), p.rst = some 0#1) →
    RunsTo (Config.LAT r.op + 1) s
      (({ s with ports := s.ports.drop (Config.LAT r.op + 1) } : State).completed (EXEC r).status (EXEC r).data)

/-- R75, R201, R205: a request with a reserved code, or KEYED_HASH with a length above 10, is accepted and
completes after `LAT(op)` edges like any other, with its status and data zero, and the block is then ready. -/
def Obligations.AbnormalRequestsCompleteLikeAnyOther : Prop :=
  ∀ (s : State) (r : Request) (st : BitVec 2), s.atAccept r →
    (∀ p ∈ (s.ports.drop 1).take (Config.LAT r.op), p.rst = some 0#1) →
    (0x8#4 ≤ r.op ∧ st = 0b01#2 ∨ r.op = 0x7#4 ∧ 10 < (r.arg.extractLsb' 0 8).toNat ∧ st = 0b10#2) →
    ∃ t, RunsTo (Config.LAT r.op + 1) s t ∧ t.outputs = (1#1, 1#1, st, 0#128) ∧ t.latchesZero

/-- R236: between the accept and the completion `rsp_valid` = 0 and the previous result is still shown; after
a completion the response stays on the ports until the next accept or reset. -/
def Obligations.ResultWindow : Prop :=
  (∀ (s t : State) (r : Request) (k : Nat), s.atAccept r → 1 ≤ k → k ≤ Config.LAT r.op →
    s.noResetFor k → RunsTo k s t → t.outputs = (0#1, 0#1, s.rspStatus, s.rspData)) ∧
  (∀ (s t : State) (k : Nat), s.wasReset = true → s.busy = 0#1 → s.rspValid = 1#1 → s.noResetFor k →
    s.noAcceptFor k → RunsTo k s t → t.outputs = (1#1, 1#1, s.rspStatus, s.rspData))

/-- R237, R239: two accepts with no reset between are at least `LAT(o) + 1` edges apart, `o` the code of the
first. -/
def Obligations.AcceptsAreSpacedByTheLatency : Prop :=
  ∀ (s t : State) (r r' : Request) (k : Nat), s.atAccept r → 0 < k → s.noResetFor k → RunsTo k s t →
    t.atAccept r' → Config.LAT r.op + 1 ≤ k

/-- R240: a reset at any edge after the accept, up to and including the completion edge, loses the request:
the block is reset and those edges hold no response. -/
def Obligations.ResetInFlightLosesTheRequest : Prop :=
  ∀ (s u : State) (r : Request) (k : Nat), s.atAccept r → 1 ≤ k → k ≤ Config.LAT r.op → s.noResetFor k →
    RunsTo k s u → u.atReset →
    RunsTo (k + 1) s { State.reset with ports := s.ports.drop (k + 1), draws := s.draws } ∧
      transcript (k + 1) s = []

/-- R40: over any run, from any state, every response is EXEC of its own request, and the answered requests are
in the order of acceptance: they are those in flight and accepted, less the ones a reset cut off. -/
def Obligations.EveryResponseIsExecOfItsRequestInOrder : Prop :=
  ∀ (k : Nat) (s : State),
    (∀ pair ∈ transcript k s, pair.2 = EXEC pair.1) ∧
    ((transcript k s).map (·.1)).Sublist (s.inFlight ++ acceptedIn k s)

/-- R40, R61: over a run without reset, each accepted request has exactly one response, in order, but for the
one still in flight at the end. -/
def Obligations.WithoutResetEveryRequestIsAnsweredOnce : Prop :=
  ∀ (k : Nat) (s t : State), s.wasReset = true → s.noResetFor k → RunsTo k s t →
    (transcript k s).map (·.1) ++ t.inFlight = s.inFlight ++ acceptedIn k s

/-- R239: the handshake does not depend on `req_id`, `req_k0`, `req_k1`, `req_arg` or earlier results: two runs
whose hosts drive the same control ports and operation codes stay in step, whatever data and keys they
carry. -/
def Obligations.TimingIsIndependentOfDataAndKeys : Prop :=
  ∀ (k : Nat) (s s' t t' : State), SameTiming s s' → RunsTo k s t → RunsTo k s' t' →
    SameTiming t t' ∧ t.reqReady = t'.reqReady

/-- R65, R82: the edge that completes a request whose operation reads no key leaves the same state under any
latched key, and that state holds no key material: its latches are zero (R33). -/
def Obligations.KeylessOperationsLeaveNoTraceOfTheKey : Prop :=
  ∀ (s : State) (j0 j1 : Word64), s.atCompletion → 0x2#4 ≤ s.latOp → s.latOp ≠ 0x7#4 →
    ∃ t, step s = .next t ∧ step { s with latK0 := j0, latK1 := j1 } = .next t ∧ t.latchesZero
end

