-- ==== Sys2Proof/Laws/State.lean ====
section
/-! SUPPORT. The field lemmas of State: for each update of Machine/Ops.lean, what each field holds after
it. All by rfl and all for simp, so that no later proof unfolds a record update. -/

namespace Sys2Proof.Machine

@[simp] theorem State.popPorts_rspValid (s : State) : (s.popPorts).rspValid = s.rspValid := rfl
@[simp] theorem State.popPorts_rspStatus (s : State) : (s.popPorts).rspStatus = s.rspStatus := rfl
@[simp] theorem State.popPorts_rspData (s : State) : (s.popPorts).rspData = s.rspData := rfl
@[simp] theorem State.popPorts_busy (s : State) : (s.popPorts).busy = s.busy := rfl
@[simp] theorem State.popPorts_cnt (s : State) : (s.popPorts).cnt = s.cnt := rfl
@[simp] theorem State.popPorts_latOp (s : State) : (s.popPorts).latOp = s.latOp := rfl
@[simp] theorem State.popPorts_latId (s : State) : (s.popPorts).latId = s.latId := rfl
@[simp] theorem State.popPorts_latK0 (s : State) : (s.popPorts).latK0 = s.latK0 := rfl
@[simp] theorem State.popPorts_latK1 (s : State) : (s.popPorts).latK1 = s.latK1 := rfl
@[simp] theorem State.popPorts_latArg (s : State) : (s.popPorts).latArg = s.latArg := rfl
@[simp] theorem State.popPorts_ports (s : State) : (s.popPorts).ports = s.ports.tail := rfl
@[simp] theorem State.popPorts_wasReset (s : State) : (s.popPorts).wasReset = s.wasReset := rfl
@[simp] theorem State.popPorts_draws (s : State) : (s.popPorts).draws = s.draws := rfl

@[simp] theorem State.clearLatches_rspValid (s : State) : (s.clearLatches).rspValid = s.rspValid := rfl
@[simp] theorem State.clearLatches_rspStatus (s : State) : (s.clearLatches).rspStatus = s.rspStatus := rfl
@[simp] theorem State.clearLatches_rspData (s : State) : (s.clearLatches).rspData = s.rspData := rfl
@[simp] theorem State.clearLatches_busy (s : State) : (s.clearLatches).busy = s.busy := rfl
@[simp] theorem State.clearLatches_cnt (s : State) : (s.clearLatches).cnt = s.cnt := rfl
@[simp] theorem State.clearLatches_latOp (s : State) : (s.clearLatches).latOp = 0#4 := rfl
@[simp] theorem State.clearLatches_latId (s : State) : (s.clearLatches).latId = 0#128 := rfl
@[simp] theorem State.clearLatches_latK0 (s : State) : (s.clearLatches).latK0 = 0#64 := rfl
@[simp] theorem State.clearLatches_latK1 (s : State) : (s.clearLatches).latK1 = 0#64 := rfl
@[simp] theorem State.clearLatches_latArg (s : State) : (s.clearLatches).latArg = 0#64 := rfl
@[simp] theorem State.clearLatches_ports (s : State) : (s.clearLatches).ports = s.ports := rfl
@[simp] theorem State.clearLatches_wasReset (s : State) : (s.clearLatches).wasReset = s.wasReset := rfl
@[simp] theorem State.clearLatches_draws (s : State) : (s.clearLatches).draws = s.draws := rfl

@[simp] theorem State.toReset_rspValid (s : State) : (s.toReset).rspValid = 0#1 := rfl
@[simp] theorem State.toReset_rspStatus (s : State) : (s.toReset).rspStatus = 0b00#2 := rfl
@[simp] theorem State.toReset_rspData (s : State) : (s.toReset).rspData = 0#128 := rfl
@[simp] theorem State.toReset_busy (s : State) : (s.toReset).busy = 0#1 := rfl
@[simp] theorem State.toReset_cnt (s : State) : (s.toReset).cnt = 0 := rfl
@[simp] theorem State.toReset_latOp (s : State) : (s.toReset).latOp = 0#4 := rfl
@[simp] theorem State.toReset_latId (s : State) : (s.toReset).latId = 0#128 := rfl
@[simp] theorem State.toReset_latK0 (s : State) : (s.toReset).latK0 = 0#64 := rfl
@[simp] theorem State.toReset_latK1 (s : State) : (s.toReset).latK1 = 0#64 := rfl
@[simp] theorem State.toReset_latArg (s : State) : (s.toReset).latArg = 0#64 := rfl
@[simp] theorem State.toReset_ports (s : State) : (s.toReset).ports = s.ports := rfl
@[simp] theorem State.toReset_wasReset (s : State) : (s.toReset).wasReset = true := rfl
@[simp] theorem State.toReset_draws (s : State) : (s.toReset).draws = s.draws := rfl

@[simp] theorem State.accept_rspValid (s : State) (r : Request) (n : Nat) : (s.accept r n).rspValid = 0#1 := rfl
@[simp] theorem State.accept_rspStatus (s : State) (r : Request) (n : Nat) : (s.accept r n).rspStatus = s.rspStatus := rfl
@[simp] theorem State.accept_rspData (s : State) (r : Request) (n : Nat) : (s.accept r n).rspData = s.rspData := rfl
@[simp] theorem State.accept_busy (s : State) (r : Request) (n : Nat) : (s.accept r n).busy = 1#1 := rfl
@[simp] theorem State.accept_cnt (s : State) (r : Request) (n : Nat) : (s.accept r n).cnt = n := rfl
@[simp] theorem State.accept_latOp (s : State) (r : Request) (n : Nat) : (s.accept r n).latOp = r.op := rfl
@[simp] theorem State.accept_latId (s : State) (r : Request) (n : Nat) : (s.accept r n).latId = r.id := rfl
@[simp] theorem State.accept_latK0 (s : State) (r : Request) (n : Nat) : (s.accept r n).latK0 = r.k0 := rfl
@[simp] theorem State.accept_latK1 (s : State) (r : Request) (n : Nat) : (s.accept r n).latK1 = r.k1 := rfl
@[simp] theorem State.accept_latArg (s : State) (r : Request) (n : Nat) : (s.accept r n).latArg = r.arg := rfl
@[simp] theorem State.accept_ports (s : State) (r : Request) (n : Nat) : (s.accept r n).ports = s.ports := rfl
@[simp] theorem State.accept_wasReset (s : State) (r : Request) (n : Nat) : (s.accept r n).wasReset = s.wasReset := rfl
@[simp] theorem State.accept_draws (s : State) (r : Request) (n : Nat) : (s.accept r n).draws = s.draws := rfl

@[simp] theorem State.countDown_rspValid (s : State) : (s.countDown).rspValid = s.rspValid := rfl
@[simp] theorem State.countDown_rspStatus (s : State) : (s.countDown).rspStatus = s.rspStatus := rfl
@[simp] theorem State.countDown_rspData (s : State) : (s.countDown).rspData = s.rspData := rfl
@[simp] theorem State.countDown_busy (s : State) : (s.countDown).busy = s.busy := rfl
@[simp] theorem State.countDown_cnt (s : State) : (s.countDown).cnt = s.cnt - 1 := rfl
@[simp] theorem State.countDown_latOp (s : State) : (s.countDown).latOp = s.latOp := rfl
@[simp] theorem State.countDown_latId (s : State) : (s.countDown).latId = s.latId := rfl
@[simp] theorem State.countDown_latK0 (s : State) : (s.countDown).latK0 = s.latK0 := rfl
@[simp] theorem State.countDown_latK1 (s : State) : (s.countDown).latK1 = s.latK1 := rfl
@[simp] theorem State.countDown_latArg (s : State) : (s.countDown).latArg = s.latArg := rfl
@[simp] theorem State.countDown_ports (s : State) : (s.countDown).ports = s.ports := rfl
@[simp] theorem State.countDown_wasReset (s : State) : (s.countDown).wasReset = s.wasReset := rfl
@[simp] theorem State.countDown_draws (s : State) : (s.countDown).draws = s.draws := rfl

@[simp] theorem State.respond_rspValid (s : State) (st : BitVec 2) (d : Word128) : (s.respond st d).rspValid = 1#1 := rfl
@[simp] theorem State.respond_rspStatus (s : State) (st : BitVec 2) (d : Word128) : (s.respond st d).rspStatus = st := rfl
@[simp] theorem State.respond_rspData (s : State) (st : BitVec 2) (d : Word128) : (s.respond st d).rspData = d := rfl
@[simp] theorem State.respond_busy (s : State) (st : BitVec 2) (d : Word128) : (s.respond st d).busy = 0#1 := rfl
@[simp] theorem State.respond_cnt (s : State) (st : BitVec 2) (d : Word128) : (s.respond st d).cnt = 0 := rfl
@[simp] theorem State.respond_latOp (s : State) (st : BitVec 2) (d : Word128) : (s.respond st d).latOp = 0#4 := rfl
@[simp] theorem State.respond_latId (s : State) (st : BitVec 2) (d : Word128) : (s.respond st d).latId = 0#128 := rfl
@[simp] theorem State.respond_latK0 (s : State) (st : BitVec 2) (d : Word128) : (s.respond st d).latK0 = 0#64 := rfl
@[simp] theorem State.respond_latK1 (s : State) (st : BitVec 2) (d : Word128) : (s.respond st d).latK1 = 0#64 := rfl
@[simp] theorem State.respond_latArg (s : State) (st : BitVec 2) (d : Word128) : (s.respond st d).latArg = 0#64 := rfl
@[simp] theorem State.respond_ports (s : State) (st : BitVec 2) (d : Word128) : (s.respond st d).ports = s.ports := rfl
@[simp] theorem State.respond_wasReset (s : State) (st : BitVec 2) (d : Word128) : (s.respond st d).wasReset = s.wasReset := rfl
@[simp] theorem State.respond_draws (s : State) (st : BitVec 2) (d : Word128) : (s.respond st d).draws = s.draws := rfl

@[simp] theorem State.redraw_rspValid (s : State) : (s.redraw).rspValid = Config.drawRspValid s.draws := rfl
@[simp] theorem State.redraw_rspStatus (s : State) : (s.redraw).rspStatus = Config.drawRspStatus s.draws := rfl
@[simp] theorem State.redraw_rspData (s : State) : (s.redraw).rspData = Config.drawRspData s.draws := rfl
@[simp] theorem State.redraw_busy (s : State) : (s.redraw).busy = Config.drawBusy s.draws := rfl
@[simp] theorem State.redraw_cnt (s : State) : (s.redraw).cnt = Config.drawCnt s.draws := rfl
@[simp] theorem State.redraw_latOp (s : State) : (s.redraw).latOp = Config.drawLatOp s.draws := rfl
@[simp] theorem State.redraw_latId (s : State) : (s.redraw).latId = Config.drawLatId s.draws := rfl
@[simp] theorem State.redraw_latK0 (s : State) : (s.redraw).latK0 = Config.drawLatK0 s.draws := rfl
@[simp] theorem State.redraw_latK1 (s : State) : (s.redraw).latK1 = Config.drawLatK1 s.draws := rfl
@[simp] theorem State.redraw_latArg (s : State) : (s.redraw).latArg = Config.drawLatArg s.draws := rfl
@[simp] theorem State.redraw_ports (s : State) : (s.redraw).ports = s.ports := rfl
@[simp] theorem State.redraw_wasReset (s : State) : (s.redraw).wasReset = s.wasReset := rfl
@[simp] theorem State.redraw_draws (s : State) : (s.redraw).draws = s.draws + 1 := rfl

@[simp] theorem State.placeRequest_rspValid (s : State) (r : Request) : (s.placeRequest r).rspValid = 0#1 := rfl
@[simp] theorem State.placeRequest_rspStatus (s : State) (r : Request) : (s.placeRequest r).rspStatus = s.rspStatus := rfl
@[simp] theorem State.placeRequest_rspData (s : State) (r : Request) : (s.placeRequest r).rspData = s.rspData := rfl
@[simp] theorem State.placeRequest_busy (s : State) (r : Request) : (s.placeRequest r).busy = 1#1 := rfl
@[simp] theorem State.placeRequest_cnt (s : State) (r : Request) : (s.placeRequest r).cnt = 1 := rfl
@[simp] theorem State.placeRequest_latOp (s : State) (r : Request) : (s.placeRequest r).latOp = r.op := rfl
@[simp] theorem State.placeRequest_latId (s : State) (r : Request) : (s.placeRequest r).latId = r.id := rfl
@[simp] theorem State.placeRequest_latK0 (s : State) (r : Request) : (s.placeRequest r).latK0 = r.k0 := rfl
@[simp] theorem State.placeRequest_latK1 (s : State) (r : Request) : (s.placeRequest r).latK1 = r.k1 := rfl
@[simp] theorem State.placeRequest_latArg (s : State) (r : Request) : (s.placeRequest r).latArg = r.arg := rfl
@[simp] theorem State.placeRequest_ports (s : State) (r : Request) : (s.placeRequest r).ports = Ports.quiet :: s.ports := rfl
@[simp] theorem State.placeRequest_wasReset (s : State) (r : Request) : (s.placeRequest r).wasReset = true := rfl
@[simp] theorem State.placeRequest_draws (s : State) (r : Request) : (s.placeRequest r).draws = s.draws := rfl

@[simp] theorem State.nextPorts_nil (s : State) (h : s.ports = []) : s.nextPorts = Ports.quiet := by
  simp [State.nextPorts, h]

@[simp] theorem State.nextPorts_cons (s : State) (p : Ports) (rest : List Ports) (h : s.ports = p :: rest) :
    s.nextPorts = p := by
  simp [State.nextPorts, h]

@[simp] theorem Ports.quiet_rst : Ports.quiet.rst = some 0#1 := rfl
@[simp] theorem Ports.quiet_reqValid : Ports.quiet.reqValid = some 0#1 := rfl
@[simp] theorem Ports.assertReset_rst : Ports.assertReset.rst = some 1#1 := rfl
@[simp] theorem Ports.offer_rst (r : Request) : (Ports.offer r).rst = some 0#1 := rfl
@[simp] theorem Ports.offer_reqValid (r : Request) : (Ports.offer r).reqValid = some 1#1 := rfl
@[simp] theorem Ports.offer_request (r : Request) : (Ports.offer r).request = .ok r := rfl

@[simp] theorem State.accept_latched (s : State) (r : Request) (n : Nat) : (s.accept r n).latched = r := rfl
@[simp] theorem State.placeRequest_latched (s : State) (r : Request) : (s.placeRequest r).latched = r := rfl
@[simp] theorem State.popPorts_latched (s : State) : s.popPorts.latched = s.latched := rfl
@[simp] theorem State.countDown_latched (s : State) : s.countDown.latched = s.latched := rfl
@[simp] theorem State.placeRequest_nextPorts (s : State) (r : Request) :
    (s.placeRequest r).nextPorts = Ports.quiet := rfl

/-- A one-bit register holds 0 or 1. -/
theorem bit_cases (b : BitVec 1) : b = 0#1 ∨ b = 1#1 := by
  revert b; decide

theorem bit_ne_one (b : BitVec 1) : b ≠ 1#1 ↔ b = 0#1 := by
  revert b; decide

end Sys2Proof.Machine
end

