-- ==== Sys2Proof/Laws/Exec.lean ====
section
/-! SUPPORT. What `exec` can do, said once: every instruction answers a next state, and that state is a
completion (the completion branch of R39) with some status and data. -/

namespace Sys2Proof.Machine

/-- Every instruction completes, and its completion writes the response registers, clears `busy`, `cnt`
and the latches, and leaves everything else alone. -/
theorem exec_isResponse (i : Instr) (s : State) : ∃ st d, exec i s = .next (s.respond st d) := by
  cases i with
  | keyedHash id k0 k1 arg =>
    by_cases h : lengthIsBad arg = true
    · exact ⟨statusBadLen, 0#128, by simp [exec, execKeyedHash, h, State.respondError]⟩
    · exact ⟨_, _, by simp only [exec, execKeyedHash, h, Bool.false_eq_true, if_false]; rfl⟩
  | _ => exact ⟨_, _, rfl⟩

end Sys2Proof.Machine
end

