-- ==== Sys2Proof/Laws/Operands.lean ====
section
/-! SUPPORT. Bit-level lemmas of packing and unpacking (R14): which bit of a port is which bit of which
byte, and that the two are inverse. -/

namespace Sys2Proof.Machine

@[simp] theorem unpack128_getElem (I : Word128) (i : Nat) (h : i < 16) :
    (unpack128 I)[i] = I.extractLsb' (120 - 8 * i) 8 := by
  simp [unpack128]

/-- Packing unpacked bytes gives the port value back (R14: `unpack128` is its inverse). -/
theorem pack128_unpack128 (I : Word128) : pack128 (unpack128 I) = I := by
  apply BitVec.eq_of_getLsbD_eq
  intro i hi
  simp only [pack128, unpack128_getElem]
  simp -index only [BitVec.getLsbD_append, BitVec.getLsbD_extractLsb']
  interval_cases i <;> simp

/-- Unpacking packed bytes gives the bytes back. -/
theorem unpack128_pack128 (B : Bytes 16) : unpack128 (pack128 B) = B := by
  apply Vector.ext
  intro i hi
  rw [unpack128_getElem]
  apply BitVec.eq_of_getLsbD_eq
  intro j hj
  simp only [pack128]
  simp -index only [BitVec.getLsbD_append, BitVec.getLsbD_extractLsb']
  interval_cases i <;> interval_cases j <;> simp

/-- What holds of every unpacked port value holds of every byte sequence. -/
theorem bytes16_cases {P : Bytes 16 → Prop} (h : ∀ I, P (unpack128 I)) (B : Bytes 16) : P B := by
  simpa [unpack128_pack128] using h (pack128 B)

/-- Bit `8j + k` of a little-endian word is bit `k` of byte `j`, zero past the last byte (R13, R173). -/
theorem leWord_getLsbD (l : List Byte) (j k : Nat) (hj : j < 8) (hl : l.length ≤ 8) (hk : k < 8) :
    (leWord l).getLsbD (8 * j + k) = ((l[j]?).getD 0#8).getLsbD k := by
  induction l generalizing j with
  | nil => simp [leWord]
  | cons b t ih =>
    simp only [List.length_cons] at hl
    cases j with
    | zero =>
      simp [leWord, BitVec.getLsbD_setWidth, BitVec.getLsbD_shiftLeft, hk]
      omega
    | succ j =>
      have := ih j (by omega) (by omega)
      have e : b.getLsbD (8 * (j + 1) + k) = false := BitVec.getLsbD_of_ge _ _ (by omega)
      simp only [leWord, BitVec.getLsbD_or, BitVec.getLsbD_setWidth, BitVec.getLsbD_shiftLeft]
      rw [show 8 * (j + 1) + k - 8 = 8 * j + k by omega, this]
      simp [e, show ¬ 8 * (j + 1) + k < 8 by omega, show 8 * (j + 1) + k < 64 by omega]

end Sys2Proof.Machine
end

