-- ==== Sys2Proof/Laws/PerInstr.lean ====
section
/-! SUPPORT. Statements made per instruction, one lemma per constructor of `Instr`. Family RoundTrip: a
well-formed instruction's request decodes to the instruction, with every operand field, also the ignored
ones (R70, R71, R75). -/

namespace Sys2Proof.Laws.RoundTrip

/-- The request of a well-formed instruction decodes to it. -/
def Statement (i : Instr) : Prop := i.wf = true → decodeRequest i.toRequest = i

theorem encode (id : Word128) (k0 k1 arg : Word64) : Statement (.encode id k0 k1 arg) := fun _ => rfl
theorem decode (id : Word128) (k0 k1 arg : Word64) : Statement (.decode id k0 k1 arg) := fun _ => rfl
theorem readTs (id : Word128) (k0 k1 arg : Word64) : Statement (.readTs id k0 k1 arg) := fun _ => rfl
theorem writeTs (id : Word128) (k0 k1 arg : Word64) : Statement (.writeTs id k0 k1 arg) := fun _ => rfl
theorem setVersion (id : Word128) (k0 k1 arg : Word64) : Statement (.setVersion id k0 k1 arg) := fun _ => rfl
theorem setVariant (id : Word128) (k0 k1 arg : Word64) : Statement (.setVariant id k0 k1 arg) := fun _ => rfl
theorem buildMaskInput (id : Word128) (k0 k1 arg : Word64) : Statement (.buildMaskInput id k0 k1 arg) :=
  fun _ => rfl
theorem keyedHash (id : Word128) (k0 k1 arg : Word64) : Statement (.keyedHash id k0 k1 arg) := fun _ => rfl

theorem reserved (op : OpCode) (id : Word128) (k0 k1 arg : Word64) : Statement (.reserved op id k0 k1 arg) := by
  intro h
  have hop : isReservedOp op = true := h
  obtain ⟨n, hn, rfl⟩ : ∃ n, n < 16 ∧ op = BitVec.ofNat 4 n := ⟨op.toNat, op.isLt, by simp⟩
  clear h
  interval_cases n <;> first | rfl | exact absurd hop (by decide)

end Sys2Proof.Laws.RoundTrip
end

