-- ==== Sys2Proof/Laws/Result.lean ====
section
/-! SUPPORT. EXEC by operation code, one equation per row of R79, so that no proof unfolds its match; and
the case split over the 16 operation codes. -/

namespace Sys2Proof.Machine

/-- To prove something of every operation code, prove it of the 16 codes as numerals. -/
theorem opCode_cases {P : OpCode → Prop} (h : ∀ n, n < 16 → P (BitVec.ofNat 4 n)) (op : OpCode) : P op := by
  simpa using h op.toNat op.isLt

theorem EXEC_encode (id : Word128) (k0 k1 arg : Word64) :
    EXEC ⟨0x0#4, id, k0, k1, arg⟩ = ⟨statusOk, pack128 (encodeIdentifier (unpack128 id) k0 k1)⟩ := rfl

theorem EXEC_decode (id : Word128) (k0 k1 arg : Word64) :
    EXEC ⟨0x1#4, id, k0, k1, arg⟩ = ⟨statusOk, pack128 (decodeIdentifier (unpack128 id) k0 k1)⟩ := rfl

theorem EXEC_readTs (id : Word128) (k0 k1 arg : Word64) :
    EXEC ⟨0x2#4, id, k0, k1, arg⟩ = ⟨statusOk, (readTimestamp48 (unpack128 id)).setWidth 128⟩ := rfl

theorem EXEC_writeTs (id : Word128) (k0 k1 arg : Word64) :
    EXEC ⟨0x3#4, id, k0, k1, arg⟩ = ⟨statusOk, pack128 (writeTimestamp48 (unpack128 id) arg)⟩ := rfl

theorem EXEC_setVersion (id : Word128) (k0 k1 arg : Word64) :
    EXEC ⟨0x4#4, id, k0, k1, arg⟩ = ⟨statusOk, pack128 (setVersion (unpack128 id) arg)⟩ := rfl

theorem EXEC_setVariant (id : Word128) (k0 k1 arg : Word64) :
    EXEC ⟨0x5#4, id, k0, k1, arg⟩ = ⟨statusOk, pack128 (setVariantRFC4122 (unpack128 id))⟩ := rfl

theorem EXEC_buildMaskInput (id : Word128) (k0 k1 arg : Word64) :
    EXEC ⟨0x6#4, id, k0, k1, arg⟩ = ⟨statusOk, pack80 (buildMaskInput (unpack128 id)) ++ 0#48⟩ := rfl

theorem EXEC_keyedHash (id : Word128) (k0 k1 arg : Word64) :
    EXEC ⟨0x7#4, id, k0, k1, arg⟩ =
      if 10 < (arg.extractLsb' 0 8).toNat then ⟨statusBadLen, 0#128⟩
      else ⟨statusOk, (prf k0 k1 ((unpack128 id).toList.take (arg.extractLsb' 0 8).toNat)).setWidth 128⟩ := rfl

theorem EXEC_reserved (n : Nat) (h : n < 16) (h8 : 8 ≤ n) (id : Word128) (k0 k1 arg : Word64) :
    EXEC ⟨BitVec.ofNat 4 n, id, k0, k1, arg⟩ = ⟨statusIllegalOp, 0#128⟩ := by
  interval_cases n <;> rfl

end Sys2Proof.Machine
end

