-- ==== Sys2Proof/Laws/Step.lean ====
section
/-! SUPPORT. What one rising edge can do, said once: the six ways it can answer a next state
(`edge_next`), and the equation of each branch. Proofs about steps cite these and never unfold `edge`. -/

namespace Sys2Proof.Machine

/-- The six ways a rising edge can answer a next state (R39, R234), each with everything it needs and does. -/
inductive EdgeCase (lat : OpCode → Nat) (s t : State) : Prop where
  | reset (hrst : s.nextPorts.rst = some 1#1) (ht : t = s.popPorts.toReset)
  | draw (hrst : s.nextPorts.rst = some 0#1) (hw : s.wasReset = false)
      (hv : s.nextPorts.reqValid = some 0#1) (ht : t = s.popPorts.redraw)
  | complete (hrst : s.nextPorts.rst = some 0#1) (hw : s.wasReset = true) (hb : s.busy = 1#1)
      (hc : s.cnt = 1) (ht : exec (decodeRequest s.latched) s.popPorts = .next t)
  | count (hrst : s.nextPorts.rst = some 0#1) (hw : s.wasReset = true) (hb : s.busy = 1#1)
      (hc : 1 < s.cnt) (ht : t = s.popPorts.countDown)
  | accept (r : Request) (hrst : s.nextPorts.rst = some 0#1) (hw : s.wasReset = true) (hb : s.busy = 0#1)
      (hv : s.nextPorts.reqValid = some 1#1) (hr : s.nextPorts.request = .ok r)
      (ht : t = s.popPorts.accept r (lat r.op))
  | idle (hrst : s.nextPorts.rst = some 0#1) (hw : s.wasReset = true) (hb : s.busy = 0#1)
      (hv : s.nextPorts.reqValid = some 0#1) (ht : t = s.popPorts)

/-- A driven one-bit port that is not 1 is 0. -/
theorem driven_bit {o : Option (BitVec 1)} (h : o ≠ none) (h1 : o ≠ some 1#1) : o = some 0#1 := by
  cases o with
  | none => exact absurd rfl h
  | some v => rcases bit_cases v with rfl | rfl <;> simp at h1 ⊢

/-- `req_valid` does not matter in flight (R241). -/
theorem reqValidMatters_of_busy (s : State) (hw : s.wasReset = true) (hb : s.busy = 1#1) :
    s.reqValidMatters = false := by
  simp [State.reqValidMatters, hw, hb]

/-- The step at a reset edge, `req_valid` driven where it matters. -/
theorem step_of_reset (s : State) (h : s.nextPorts.rst = some 1#1)
    (hv : s.reqValidMatters = true → s.nextPorts.reqValid ≠ none) : step s = .next s.popPorts.toReset := by
  simp only [step, edge, h, ↓reduceIte]
  rw [if_neg fun hn => hv hn.1 hn.2]

/-- The step where `req_valid` matters and is undriven. -/
theorem step_undriven_valid (s : State) (h : s.nextPorts.rst ≠ none) (hm : s.reqValidMatters = true)
    (hv : s.nextPorts.reqValid = none) : step s = .refused (.undriven .reqValid) := by
  simp only [step, edge]
  split
  · exact absurd ‹_› h
  · rw [if_pos ⟨hm, hv⟩]

/-- The step of a busy block without reset. -/
theorem step_of_busy (s : State) (h : s.nextPorts.rst = some 0#1) (hw : s.wasReset = true)
    (hb : s.busy = 1#1) : step s = busyEdge s.popPorts := by
  simp [step, edge, h, hw, hb, State.reqValidMatters]

/-- The step of an idle block without reset, `req_valid` driven. -/
theorem step_of_idle (s : State) {v : BitVec 1} (h : s.nextPorts.rst = some 0#1) (hw : s.wasReset = true)
    (hb : s.busy = 0#1) (hv : s.nextPorts.reqValid = some v) :
    step s = idleEdge Config.LAT s.nextPorts s.popPorts := by
  simp [step, edge, h, hw, hb, hv]

/-- The step before the first reset, `req_valid` driven. -/
theorem step_before_reset (s : State) {v : BitVec 1} (h : s.nextPorts.rst = some 0#1)
    (hw : s.wasReset = false) (hv : s.nextPorts.reqValid = some v) : step s = preResetEdge s.nextPorts s.popPorts := by
  simp [step, edge, h, hw, hv]

theorem idleEdge_next {lat : OpCode → Nat} {p : Ports} {s t : State} (h : idleEdge lat p s = .next t) :
    (∃ r, p.reqValid = some 1#1 ∧ p.request = .ok r ∧ t = s.accept r (lat r.op)) ∨
      (p.reqValid ≠ some 1#1 ∧ t = s) := by
  unfold idleEdge at h
  split at h
  · rename_i hv
    split at h
    · simp at h
    · rename_i r hr
      exact .inl ⟨r, hv, hr, (Host.Outcome.next.inj h).symm⟩
  · exact .inr ⟨‹_›, (Host.Outcome.next.inj h).symm⟩

theorem preResetEdge_next {p : Ports} {s t : State} (h : preResetEdge p s = .next t) :
    p.reqValid ≠ some 1#1 ∧ t = s.redraw := by
  unfold preResetEdge at h
  split_ifs at h with hv
  exact ⟨hv, (Host.Outcome.next.inj h).symm⟩

theorem busyEdge_next {s t : State} (h : busyEdge s = .next t) :
    (s.cnt = 1 ∧ exec (decodeRequest s.latched) s = .next t) ∨ (1 < s.cnt ∧ t = s.countDown) := by
  unfold busyEdge at h
  split_ifs at h with h1 h0
  · exact .inl ⟨h1, h⟩
  · simp only [Host.Outcome.next.injEq] at h
    exact .inr ⟨by omega, h.symm⟩

/-- If a rising edge answers next `t`, one of the six cases holds. -/
theorem edge_next {lat : OpCode → Nat} {s t : State} (h : edge lat s = .next t) : EdgeCase lat s t := by
  unfold edge at h
  split at h
  · simp at h
  · rename_i v hv
    split_ifs at h with hu hr hw hb
    · subst hr
      exact .reset hv (Host.Outcome.next.inj h).symm
    · obtain rfl := (bit_ne_one v).1 hr
      obtain ⟨hq, ht⟩ := preResetEdge_next h
      have hn : s.nextPorts.reqValid ≠ none := fun hn => hu ⟨by simp [State.reqValidMatters, hw], hn⟩
      exact .draw hv hw (driven_bit hn hq) ht
    · obtain rfl := (bit_ne_one v).1 hr
      have hw' : s.wasReset = true := by simpa using hw
      rcases busyEdge_next h with ⟨hc, ht⟩ | ⟨hc, ht⟩
      · exact .complete hv hw' hb hc ht
      · exact .count hv hw' hb hc ht
    · obtain rfl := (bit_ne_one v).1 hr
      have hw' : s.wasReset = true := by simpa using hw
      have hb' := (bit_ne_one _).1 hb
      have hn : s.nextPorts.reqValid ≠ none := fun hn => hu ⟨by simp [State.reqValidMatters, hb'], hn⟩
      rcases idleEdge_next h with ⟨r, hq, hr, ht⟩ | ⟨hq, ht⟩
      · exact .accept r hv hw' hb' hq hr ht
      · exact .idle hv hw' hb' (driven_bit hn hq) ht

theorem step_next {s t : State} (h : step s = .next t) : EdgeCase Config.LAT s t := edge_next h

end Sys2Proof.Machine
end

