-- ==== Sys2Proof/Laws/Run.lean ====
section
/-! SUPPORT. Runs of several edges, unrolled one edge at a time. -/

namespace Sys2Proof.Machine

theorem runsTo_zero (s t : State) : RunsTo 0 s t ↔ s = t := by
  simp only [RunsTo, Host.Core.run]
  exact ⟨fun h => Host.Outcome.next.inj h, fun h => congrArg _ h⟩

theorem runsTo_succ (k : Nat) (s t : State) : RunsTo (k + 1) s t ↔ ∃ u, step s = .next u ∧ RunsTo k u t := by
  simp only [RunsTo, Host.Core.run, show Sys2Proof.core.step s = step s from rfl]
  cases step s <;> simp

theorem acceptedIn_next {k : Nat} {s t : State} (h : step s = .next t) :
    acceptedIn (k + 1) s = s.accepting.toList ++ acceptedIn k t := by
  simp [acceptedIn, h]

theorem transcript_next {k : Nat} {s t : State} (h : step s = .next t) :
    transcript (k + 1) s =
      if s.completing then (s.latched, ⟨t.rspStatus, t.rspData⟩) :: transcript k t else transcript k t := by
  simp [transcript, h]

end Sys2Proof.Machine
end

