-- ==== Sys2Proof/Tests/Slice0.lean ====
section
/-! SUPPORT. The model's own tests. The expected values come from 95_test_vectors.md (the row is named in
each docstring) or from a rule; the witnesses show for every statement with hypotheses a concrete state and
operands that meet all of them together. -/

namespace Sys2Proof.Tests
open Sys2Proof Sys2Proof.Machine

/-! ### Helpers -/

/-- `x`, the identifier of the source's first example (L1.1). -/
abbrev exampleId : Word128 := 0x018f2d9f9a2a7def8c3f7b1a2c4d5e6f#128
/-- Its facade under the test key (L1.1). -/
abbrev exampleFacade : Word128 := 0x2463c7807fca4def8c3f7b1a2c4d5e6f#128
/-- The test key K_T, first half. -/
abbrev testK0 : Word64 := 0x0123456789abcdef#64
/-- The test key K_T, second half. -/
abbrev testK1 : Word64 := 0xfedcba9876543210#64

/-- The response an outcome leaves: `rsp_valid`, `rsp_status`, `rsp_data`. -/
def responseOf : Host.Outcome State Fault Refusal → Option (BitVec 1 × BitVec 2 × Word128)
  | .next t => some (t.rspValid, t.rspStatus, t.rspData)
  | .fault _ => none
  | .refused _ => none

/-- The response to a listing word: what `exec` does with the instruction it decodes to. -/
def respondTo (w : Reqw) : Option (BitVec 1 × BitVec 2 × Word128) :=
  responseOf (exec (Sys2Proof.decode w) State.reset)

/-- A block that has been reset, with `r` in flight and `n` edges left, the last response `d`. -/
def inFlightState (r : Request) (n : Nat) (d : Word128) (drive : List Ports) : State :=
  { State.reset with
    rspData := d, busy := 1#1, cnt := n, latOp := r.op, latId := r.id, latK0 := r.k0, latK1 := r.k1,
    latArg := r.arg, ports := drive }

/-- A reset block with the host's drive to come. -/
def idleState (drive : List Ports) : State := { State.reset with ports := drive }

/-! ### Well-formedness (R75) -/

/-- The one check of WellFormed refuses an ill-formed term: code 7 is not reserved. -/
theorem test_wf_refuses_unreserved_code : (Instr.reserved 0x7#4 0#128 0#64 0#64 0#64).wf = false := by decide
/-- Code 0 is not reserved either. -/
theorem test_wf_refuses_code_zero : (Instr.reserved 0x0#4 0#128 0#64 0#64 0#64).wf = false := by decide
theorem test_wf_accepts_reserved_bounds :
    (Instr.reserved 0x8#4 0#128 0#64 0#64 0#64).wf = true ∧
      (Instr.reserved 0xf#4 exampleId testK0 testK1 7#64).wf = true := by decide

/-! ### Decoding: one word of each row, written out from R70 (op, arg, k1, k0, id); most stand in L3 -/

theorem test_decode_encode :
    Sys2Proof.decode 0x00000000000000000fedcba98765432100123456789abcdef018f2d9f9a2a7def8c3f7b1a2c4d5e6f#324 =
      .encode exampleId testK0 testK1 0#64 := by decide +kernel
theorem test_decode_decode :
    Sys2Proof.decode 0x10000000000000000fedcba98765432100123456789abcdef2463c7807fca4def8c3f7b1a2c4d5e6f#324 =
      .decode exampleFacade testK0 testK1 0#64 := by decide +kernel
theorem test_decode_readTs :
    Sys2Proof.decode 0x2000000000000000000000000000000000000000000000000018f2d9f9a2a7def8c3f7b1a2c4d5e6f#324 =
      .readTs exampleId 0#64 0#64 0#64 := by decide +kernel
theorem test_decode_writeTs :
    Sys2Proof.decode 0x300002463c7807fca00000000000000000000000000000000018f2d9f9a2a7def8c3f7b1a2c4d5e6f#324 =
      .writeTs exampleId 0#64 0#64 0x2463c7807fca#64 := by decide +kernel
theorem test_decode_setVersion :
    Sys2Proof.decode 0x40000000000000004000000000000000000000000000000002463c7807fca7def8c3f7b1a2c4d5e6f#324 =
      .setVersion 0x2463c7807fca7def8c3f7b1a2c4d5e6f#128 0#64 0#64 4#64 := by decide +kernel
theorem test_decode_setVariant :
    Sys2Proof.decode 0x50000000000000000000000000000000000000000000000002463c7807fca4def8c3f7b1a2c4d5e6f#324 =
      .setVariant exampleFacade 0#64 0#64 0#64 := by decide +kernel
theorem test_decode_buildMaskInput :
    Sys2Proof.decode 0x6000000000000000000000000000000000000000000000000018f2d9f9a2a7def8c3f7b1a2c4d5e6f#324 =
      .buildMaskInput exampleId 0#64 0#64 0#64 := by decide +kernel
theorem test_decode_keyedHash :
    Sys2Proof.decode 0x7000000000000010afedcba98765432100123456789abcdef018f2d9f9a2a7def8c3f7b1a2c4d5e6f#324 =
      .keyedHash exampleId testK0 testK1 0x10a#64 := by decide +kernel
theorem test_decode_reserved :
    Sys2Proof.decode 0x90000000000000000fedcba98765432100123456789abcdef018f2d9f9a2a7def8c3f7b1a2c4d5e6f#324 =
      .reserved 0x9#4 exampleId testK0 testK1 0#64 := by decide +kernel

/-- A number of more than 324 bits is no request word and is rejected by name. -/
theorem test_decode_rejects_long_number :
    decodeNumber (2 ^ 324) = .error .notARequestWord ∧ decodeTableWord 332 (2 ^ 324) = none ∧
      (decodeNumber (2 ^ 324 - 1)).toOption.isSome = true := by decide +kernel

/-- The table's numbering (log entry 3): the low four bits are `op`, all other bits zero. -/
theorem test_decodeTableWord_rows :
    decodeTableWord 8 0x0 = some (.encode 0#128 0#64 0#64 0#64) ∧
    decodeTableWord 8 0x7 = some (.keyedHash 0#128 0#64 0#64 0#64) ∧
    decodeTableWord 8 0x8 = some (.reserved 0x8#4 0#128 0#64 0#64 0#64) ∧
    decodeTableWord 8 0xf = some (.reserved 0xf#4 0#128 0#64 0#64 0#64) := by decide +kernel

/-! ### Results: one or two vectors of L2 and L3 for each operation -/

/-- EN8: `arg` all ones is ignored. -/
theorem test_encode :
    respondTo 0x0fffffffffffffffffedcba98765432100123456789abcdef018f2d9f9a2a7def8c3f7b1a2c4d5e6f#324 =
      some (1#1, 0b00#2, 0x2463c7807fca4def8c3f7b1a2c4d5e6f#128) := by decide +kernel
/-- DE8: version and variant are stamped whatever the input carried. -/
theorem test_decode :
    respondTo 0x10000000000000000fedcba98765432100123456789abcdef92e2af2bee164fffbfffffffffffffff#324 =
      some (1#1, 0b00#2, 0xffffffffffff7fffbfffffffffffffff#128) := by decide +kernel
/-- RT4: key and `arg` are ignored. -/
theorem test_readTs :
    respondTo 0x2000000000000deadfedcba98765432100123456789abcdef2463c7807fca4def8c3f7b1a2c4d5e6f#324 =
      some (1#1, 0b00#2, 0x000000000000000000002463c7807fca#128) := by decide +kernel
/-- WT1: `arg[63:48]` is discarded. -/
theorem test_writeTs :
    respondTo 0x3ffff00000000000100000000000000000000000000000000018f2d9f9a2a7def8c3f7b1a2c4d5e6f#324 =
      some (1#1, 0b00#2, 0x0000000000017def8c3f7b1a2c4d5e6f#128) := by decide +kernel
/-- SV3: `arg` = 0x10 is cut to version 0. -/
theorem test_setVersion :
    respondTo 0x4000000000000001000000000000000000000000000000000018f2d9f9a2a7def8c3f7b1a2c4d5e6f#324 =
      some (1#1, 0b00#2, 0x018f2d9f9a2a0def8c3f7b1a2c4d5e6f#128) := by decide +kernel
/-- VA4: byte 8 = 0xff becomes 0xbf. -/
theorem test_setVariant :
    respondTo 0x5000000000000000000000000000000000000000000000000018f2d9f9a2a7defff3f7b1a2c4d5e6f#324 =
      some (1#1, 0b00#2, 0x018f2d9f9a2a7defbf3f7b1a2c4d5e6f#128) := by decide +kernel
/-- BM2: the corrected buffer (90_conflicts.md C1), from another version and variant. -/
theorem test_buildMaskInput :
    respondTo 0x6000000000000000000000000000000000000000000000000018f2d9f9a2a1defcc3f7b1a2c4d5e6f#324 =
      some (1#1, 0b00#2, 0x0def0c3f7b1a2c4d5e6f000000000000#128) := by decide +kernel
/-- KH9, a full word and one byte; P3 row 2, a length of 11. -/
theorem test_keyedHash :
    respondTo 0x70000000000000009fedcba98765432100123456789abcdef00010203040506070800000000000000#324 =
      some (1#1, 0b00#2, 0x0000000000000000536f977e4ab084ea#128) ∧
    respondTo 0x7000000000000000bfedcba98765432100123456789abcdef018f2d9f9a2a7def8c3f7b1a2c4d5e6f#324 =
      some (1#1, 0b10#2, 0#128) := by decide +kernel
/-- RSf: the last reserved code. -/
theorem test_reserved :
    respondTo 0xf0000000000000007fedcba98765432100123456789abcdef018f2d9f9a2a7def8c3f7b1a2c4d5e6f#324 =
      some (1#1, 0b01#2, 0#128) := by decide +kernel
/-- The SipHash reference value of a 15-byte message under the key K_R (L2.6), longer than any message of
KEYED_HASH. -/
theorem test_prf_reference :
    prf 0x0706050403020100#64 0x0f0e0d0c0b0a0908#64 ((List.range 15).map (BitVec.ofNat 8)) =
      0xa129ca6149be45e5#64 := by decide +kernel

/-! ### Single edges -/

/-- The very next step runs the placed instruction (log entry 6): READ_TS of zero. -/
theorem test_step_runs_placed_word :
    step (State.reset.withFetchWord 8 0x2) = .next (State.reset.completed 0b00#2 0#128) := by rfl

/-- L2.11 T1, edge 3: a request in flight with two edges left counts down, and the offer of another request is
not accepted (R235). -/
theorem test_offer_while_busy_is_not_accepted :
    edge (fun _ => 2) (inFlightState ⟨0x0#4, exampleId, testK0, testK1, 0#64⟩ 2 0#128
        [Ports.offer ⟨0x1#4, exampleFacade, testK0, testK1, 0#64⟩]) =
      .next (inFlightState ⟨0x0#4, exampleId, testK0, testK1, 0#64⟩ 1 0#128 []) := by rfl

/-- L2.11 T3, edge 4: a reset in flight leaves the reset state. -/
theorem test_reset_in_flight :
    edge (fun _ => 3) (inFlightState ⟨0x0#4, exampleId, testK0, testK1, 0#64⟩ 2 0#128 [Ports.assertReset]) =
      .next State.reset := by rfl

/-- L2.11 T1, edge 2: the accept with `LAT` = 2. -/
theorem test_accept :
    edge (fun _ => 2) (idleState [Ports.offer ⟨0x0#4, exampleId, testK0, testK1, 0#64⟩]) =
      .next (inFlightState ⟨0x0#4, exampleId, testK0, testK1, 0#64⟩ 2 0#128 []) := by rfl

/-- The model's one fault: an edge with `busy` = 1 and `cnt` = 0 (log entry 5). -/
theorem test_fault_count_expired :
    step (inFlightState ⟨0x0#4, exampleId, testK0, testK1, 0#64⟩ 0 0#128 []) = .fault .countExpired := by rfl

/-- P1 as a listing (R80): reset, one offer, `LAT` quiet edges, one offer, `LAT` quiet edges. -/
theorem test_listing_P1 :
    driveListing (fun _ => 2) none
        [.reset, .command (.encode exampleId testK0 testK1), .wait,
          .command (.decode exampleFacade testK0 testK1), .wait] =
      [Ports.assertReset, Ports.offer ⟨0x0#4, exampleId, testK0, testK1, 0#64⟩, Ports.quiet, Ports.quiet,
        Ports.offer ⟨0x1#4, exampleFacade, testK0, testK1, 0#64⟩, Ports.quiet, Ports.quiet] := by
  decide +kernel

/-! ### Witnesses: states and operands that meet the hypotheses of the statements -/

/-- DecodeOfEncodeIsTheInstruction: well-formed instructions, the reserved row at both ends of its range. -/
theorem test_meets_DecodeOfEncodeIsTheInstruction :
    (Instr.encode exampleId testK0 testK1 0#64).wf = true ∧
      (Instr.reserved 0x8#4 0#128 0#64 0#64 0#64).wf = true ∧
      (Instr.reserved 0xf#4 0#128 0#64 0#64 0#64).wf = true := by decide

/-- OperationIsSelectedByOpAlone and ReservedCodesCompleteWithIllegalOp: the ends of the reserved range; 7 is
outside it. -/
theorem test_meets_reserved_range : 0x8#4 ≤ 0x8#4 ∧ 0x8#4 ≤ 0xf#4 ∧ ¬ 0x8#4 ≤ 0x7#4 := by decide

/-- StatusIsAsTabulatedAndErrorsCarryNoData: each clause at the boundary of its range, codes 6, 7 and 8,
lengths 10 and 11; no request falls under two. -/
theorem test_meets_StatusIsAsTabulated :
    (EXEC ⟨0x6#4, 0#128, 0#64, 0#64, 11#64⟩).status = 0b00#2 ∧
    (EXEC ⟨0x7#4, 0#128, 0#64, 0#64, 10#64⟩).status = 0b00#2 ∧
    (EXEC ⟨0x7#4, 0#128, 0#64, 0#64, 11#64⟩).status = 0b10#2 ∧
    (EXEC ⟨0x7#4, 0#128, 0#64, 0#64, 255#64⟩).status = 0b10#2 ∧
    (EXEC ⟨0x8#4, 0#128, 0#64, 0#64, 0#64⟩).status = 0b01#2 ∧
    (EXEC ⟨0xf#4, 0#128, 0#64, 0#64, 11#64⟩).status = 0b01#2 := by decide +kernel

/-- IgnoredFieldsAreDontCare: requests that differ in ignored fields only, for codes 2, 3 and 4. -/
theorem test_meets_IgnoredFields_accessors :
    AgreeOnFieldsRead ⟨0x2#4, exampleId, 0#64, 0#64, 0#64⟩ ⟨0x2#4, exampleId, testK0, testK1, 5#64⟩ ∧
    AgreeOnFieldsRead ⟨0x3#4, exampleId, 0#64, 0#64, 1#64⟩
      ⟨0x3#4, exampleId, testK0, testK1, 0xffff000000000001#64⟩ ∧
    AgreeOnFieldsRead ⟨0x4#4, exampleId, 0#64, 0#64, 0x4#64⟩ ⟨0x4#4, exampleId, 0#64, 0#64, 0xf4#64⟩ := by
  simp [AgreeOnFieldsRead]

/-- IgnoredFieldsAreDontCare: ENCODE with another `arg`, a reserved code with everything else different. -/
theorem test_meets_IgnoredFields_encode_reserved :
    AgreeOnFieldsRead ⟨0x0#4, exampleId, testK0, testK1, 0#64⟩ ⟨0x0#4, exampleId, testK0, testK1, 9#64⟩ ∧
    AgreeOnFieldsRead ⟨0x9#4, 0#128, 0#64, 0#64, 0#64⟩ ⟨0x9#4, exampleId, testK0, testK1, 9#64⟩ := by
  simp [AgreeOnFieldsRead]

/-- IgnoredFieldsAreDontCare: KEYED_HASH of one byte, the other bytes and `arg[63:8]` different. -/
theorem test_meets_IgnoredFields_keyedHash :
    AgreeOnFieldsRead ⟨0x7#4, 0x01000000000000000000000000000000#128, testK0, testK1, 1#64⟩
      ⟨0x7#4, 0x01ffffffffffffffffffffffffffffff#128, testK0, testK1, 0x101#64⟩ := by
  refine ⟨rfl, rfl, rfl, by decide, ?_⟩
  intro i _ hi
  obtain rfl : i = 0 := by simpa using hi
  rfl

/-- MaskInputDeterminesThePayload: a buffer with zero pad bits, and one without. -/
theorem test_meets_MaskInputDeterminesThePayload :
    (#v[0x0f#8, 0#8, 0x3f#8, 0#8, 0#8, 0#8, 0#8, 0#8, 0#8, 0#8] : Bytes 10)[0].extractLsb' 4 4 = 0#4 ∧
      (0x10#8).extractLsb' 4 4 ≠ 0#4 := by decide

/-- MaskInputIgnoresVersionVariantTimestamp: two identifiers with the same payload and different rest. -/
theorem test_meets_MaskInputIgnores :
    fieldPa (unpack128 exampleId) = fieldPa (unpack128 exampleFacade) ∧
      fieldPb (unpack128 exampleId) = fieldPb (unpack128 exampleFacade) ∧
      unpack128 exampleId ≠ unpack128 exampleFacade := by decide +kernel

/-- MessageWordsHoldTheMessageBytes: the last byte of the one full word of a 10-byte message, and the two ends
of the final word. -/
theorem test_meets_MessageWords :
    7 < 8 ∧ 0 < ((List.range 10).map (BitVec.ofNat 8)).length / 8 ∧ 0 < 7 ∧ 6 < 7 := by decide

/-- HashOfAShortMessage: the empty message and one of seven bytes. -/
theorem test_meets_HashOfAShortMessage :
    ([] : List Byte).length < 8 ∧ ((List.range 7).map (BitVec.ofNat 8)).length < 8 := by decide

/-- TransformPreservesThePayload: the ends of its index range. -/
theorem test_meets_TransformPreservesThePayload : 9 < 16 ∧ 9 ≤ 9 ∧ 15 < 16 ∧ 9 ≤ 15 := by decide

/-- WrongKeyRestoresExactlyOnEqualMasks: a version 7, variant 10 identifier; and the wrong key of DE3 gives it
another mask. -/
theorem test_meets_WrongKey :
    fieldVer (unpack128 exampleId) = 0x7#4 ∧ fieldVar (unpack128 exampleId) = 0b10#2 ∧
      mask (unpack128 exampleId) testK0 testK1 ≠ mask (unpack128 exampleId) 0x0123456789abcdee#64 testK1 := by
  decide +kernel

/-- The ports of an edge at which everything is driven. -/
def fullPorts (rst valid : BitVec 1) : Ports :=
  ⟨some rst, some valid, some 0x2#4, some exampleId, some testK0, some testK1, some 7#64⟩

/-- The ports of an edge at which nothing but `rst` is driven. -/
def onlyRst (rst : BitVec 1) : Ports := ⟨some rst, none, none, none, none, none, none⟩

/-- ClockEdgeTakesTheBranchOfTheRule, reset: an idle block with `req_valid` driven, and a busy one with it
undriven. -/
theorem test_meets_ClockEdge_reset :
    (idleState [Ports.assertReset]).wasReset = true ∧
    (idleState [Ports.assertReset]).nextPorts.rst = some 1#1 ∧
    (idleState [Ports.assertReset]).nextPorts.reqValid ≠ none ∧
    (inFlightState ⟨0x7#4, exampleId, testK0, testK1, 3#64⟩ 1 0#128 [onlyRst 1#1]).wasReset = true ∧
    (inFlightState ⟨0x7#4, exampleId, testK0, testK1, 3#64⟩ 1 0#128 [onlyRst 1#1]).nextPorts.rst = some 1#1 ∧
    (inFlightState ⟨0x7#4, exampleId, testK0, testK1, 3#64⟩ 1 0#128 [onlyRst 1#1]).busy ≠ 0#1 :=
  ⟨rfl, rfl, nofun, rfl, rfl, show ¬ (1#1 = 0#1) by decide⟩

/-- The same, busy block with one edge left (completion) and with two (countdown), `rst` alone driven. -/
theorem test_meets_ClockEdge_busy :
    (inFlightState ⟨0x7#4, exampleId, testK0, testK1, 3#64⟩ 1 0#128 [onlyRst 0#1]).wasReset = true ∧
    (inFlightState ⟨0x7#4, exampleId, testK0, testK1, 3#64⟩ 1 0#128 [onlyRst 0#1]).nextPorts.rst = some 0#1 ∧
    (inFlightState ⟨0x7#4, exampleId, testK0, testK1, 3#64⟩ 1 0#128 [onlyRst 0#1]).busy = 1#1 ∧
    (inFlightState ⟨0x7#4, exampleId, testK0, testK1, 3#64⟩ 1 0#128 [onlyRst 0#1]).cnt = 1 ∧
    1 < (inFlightState ⟨0x7#4, exampleId, testK0, testK1, 3#64⟩ 2 0#128 [onlyRst 0#1]).cnt :=
  ⟨rfl, rfl, rfl, rfl, by decide⟩

/-- The same, accept. -/
theorem test_meets_ClockEdge_accept :
    (idleState [fullPorts 0#1 1#1]).wasReset = true ∧
    (idleState [fullPorts 0#1 1#1]).nextPorts.rst = some 0#1 ∧ (idleState [fullPorts 0#1 1#1]).busy = 0#1 ∧
    (idleState [fullPorts 0#1 1#1]).nextPorts.reqValid = some 1#1 ∧
    (idleState [fullPorts 0#1 1#1]).nextPorts.request = .ok ⟨0x2#4, exampleId, testK0, testK1, 7#64⟩ :=
  ⟨rfl, rfl, rfl, rfl, rfl⟩

/-- The same, idle: the operands undriven, and past the end of the drive. -/
theorem test_meets_ClockEdge_idle :
    (idleState [Ports.quiet]).wasReset = true ∧ (idleState [Ports.quiet]).nextPorts.rst = some 0#1 ∧
    (idleState [Ports.quiet]).busy = 0#1 ∧ (idleState [Ports.quiet]).nextPorts.reqValid = some 0#1 ∧
    (idleState [Ports.quiet]).nextPorts.reqOp = none ∧ (idleState []).ports = [] ∧ (idleState []).busy = 0#1 :=
  ⟨rfl, rfl, rfl, rfl, rfl, rfl, rfl⟩

/-- StepRunsTheDecodedInstruction, ResponseWrittenOnlyAtCompletionOrReset, KeylessOperations: a block about to
complete READ_TS. -/
theorem test_meets_StepRuns :
    (inFlightState ⟨0x2#4, exampleId, testK0, testK1, 7#64⟩ 1 0#128 []).atCompletion ∧
    Sys2Proof.decode (inFlightState ⟨0x2#4, exampleId, testK0, testK1, 7#64⟩ 1 0#128 []).latched.toWord =
      .readTs exampleId testK0 testK1 7#64 ∧
    (Instr.readTs exampleId testK0 testK1 7#64).wf = true :=
  ⟨⟨⟨rfl, rfl⟩, rfl, rfl⟩, by decide, rfl⟩

/-- PlacedInstructionRunsNext: the table's number of READ_TS, and a number longer than one byte. -/
theorem test_meets_PlacedInstruction :
    decodeTableWord 8 0x2 = some (.readTs 0#128 0#64 0#64 0#64) ∧
    decodeTableWord 328 0x12 = some (.readTs 1#128 0#64 0#64 0#64) := by decide +kernel

/-- ResetEdgeClearsEverything: an edge that asserts reset, on a block never reset; and on a busy block, where
`req_valid` does not matter and is left undriven. -/
theorem test_meets_ResetEdge :
    ((State.powerUp [Ports.assertReset]).nextPorts.rst = some 1#1 ∧
      (State.powerUp [Ports.assertReset]).nextPorts.reqValid ≠ none) ∧
    ((inFlightState ⟨0x0#4, exampleId, testK0, testK1, 0#64⟩ 1 0#128
        [⟨some 1#1, none, none, none, none, none, none⟩]).nextPorts.rst = some 1#1 ∧
      (inFlightState ⟨0x0#4, exampleId, testK0, testK1, 0#64⟩ 1 0#128
        [⟨some 1#1, none, none, none, none, none, none⟩]).reqValidMatters = false) :=
  ⟨⟨rfl, nofun⟩, rfl, rfl⟩

/-- UndrivenInputsThatMatterAreRefused, one state per clause: `rst`; `req_valid` of an idle block, at an edge
without and at one with reset, and before the first reset; the last operand port. -/
theorem test_meets_Undriven :
    (idleState [⟨none, none, none, none, none, none, none⟩]).nextPorts.rst = none ∧
    ((idleState [⟨some 0#1, none, none, none, none, none, none⟩]).nextPorts.rst ≠ none ∧
      (idleState [⟨some 1#1, none, none, none, none, none, none⟩]).nextPorts.rst ≠ none ∧
      (idleState [⟨some 1#1, none, none, none, none, none, none⟩]).busy = 0#1 ∧
      (State.powerUp [⟨some 1#1, none, none, none, none, none, none⟩]).wasReset = false ∧
      (idleState [⟨some 1#1, none, none, none, none, none, none⟩]).nextPorts.reqValid = none) ∧
    ((idleState [⟨some 0#1, some 1#1, some 0#4, some 0#128, some 0#64, some 0#64, none⟩]).running ∧
      (idleState [⟨some 0#1, some 1#1, some 0#4, some 0#128, some 0#64, some 0#64, none⟩]).nextPorts.reqValid =
        some 1#1 ∧
      (idleState [⟨some 0#1, some 1#1, some 0#4, some 0#128, some 0#64, some 0#64, none⟩]).nextPorts.reqArg =
        none) :=
  ⟨rfl, ⟨nofun, nofun, rfl, rfl, rfl⟩, ⟨rfl, rfl⟩, rfl, rfl⟩

/-- OffersWhileBusyHaveNoEffect: a busy block, one drive with an offer and one with undriven ports. -/
theorem test_meets_OffersWhileBusy :
    (inFlightState ⟨0x0#4, exampleId, testK0, testK1, 0#64⟩ 2 0#128 []).wasReset = true ∧
    (inFlightState ⟨0x0#4, exampleId, testK0, testK1, 0#64⟩ 2 0#128 []).busy = 1#1 ∧
    (fullPorts 0#1 1#1).rst = some 0#1 ∧
    (⟨some 0#1, none, none, none, none, none, none⟩ : Ports).rst = some 0#1 := ⟨rfl, rfl, rfl, rfl⟩

/-- NoRequestBeforeTheFirstReset: a powered-up block, offered a request, and left alone. -/
theorem test_meets_NoRequestBeforeTheFirstReset :
    (State.powerUp [fullPorts 0#1 1#1]).wasReset = false ∧
    (State.powerUp [fullPorts 0#1 1#1]).nextPorts.rst = some 0#1 ∧
    (State.powerUp [fullPorts 0#1 1#1]).nextPorts.reqValid = some 1#1 ∧
    (State.powerUp []).wasReset = false ∧ (State.powerUp []).nextPorts.rst = some 0#1 ∧
    (State.powerUp []).nextPorts.reqValid = some 0#1 := ⟨rfl, rfl, rfl, rfl, rfl, rfl⟩

/-- The reset state meets the invariant's consistency, with any drive to come. -/
theorem test_reset_consistent (drive : List Ports) : (idleState drive).Consistent where
  idleLatches _ := ⟨rfl, rfl, rfl, rfl, rfl⟩
  idleCount _ := rfl
  flightCount h := absurd h (show ¬ (0#1 = 1#1) by decide)
  flightValid _ := rfl
  statusLegal := show 0b00#2 ≠ 0b11#2 by decide
  errorData h := absurd rfl h

/-- StepKeepsTheInvariant: the reset state with an edge driven, which accepts. -/
theorem test_meets_StepKeepsTheInvariant :
    (idleState [fullPorts 0#1 1#1]).Inv ∧
    step (idleState [fullPorts 0#1 1#1]) =
      .next ((idleState [fullPorts 0#1 1#1]).accepted ⟨0x2#4, exampleId, testK0, testK1, 7#64⟩) := by
  refine ⟨fun _ => test_reset_consistent _, ?_⟩
  rw [step_of_idle _ rfl rfl rfl rfl]
  rfl

/-- BlockNeverFaultsAndAlwaysAdvances: idle edges whose operands are undriven have the inputs that matter
driven, past the end of the drive too; an offer without operands has not. -/
theorem test_meets_BlockNeverFaults :
    (idleState []).Inv ∧ (idleState []).wasReset = true ∧ (idleState []).inputsDriven ∧
    (idleState [fullPorts 0#1 1#1]).inputsDriven ∧
    ¬ (idleState [⟨some 0#1, some 1#1, none, none, none, none, none⟩]).inputsDriven := by
  refine ⟨fun _ => test_reset_consistent _, rfl, ⟨nofun, fun _ => nofun, ?_⟩,
    ⟨nofun, fun _ => nofun, fun _ _ _ => ⟨_, rfl⟩⟩, ?_⟩
  · intro _ _ h
    exact absurd h (show ¬ (some 0#1 = some 1#1) by decide)
  · intro h
    obtain ⟨r, hr⟩ := h.2.2 ⟨rfl, rfl⟩ rfl rfl
    exact nomatch (show Except.error InputPort.reqOp = .ok r from hr)

/-- ResponseWrittenOnlyAtCompletionOrReset: a completion that changes `rsp_data`; and the flags `rsp_valid`
and `busy` at once, for two clauses of HandshakeFlagsChangeOnlyAtTheirEvents. -/
theorem test_meets_ResponseWritten :
    ∃ t, step (inFlightState ⟨0x2#4, exampleId, testK0, testK1, 7#64⟩ 1 0#128 []) = .next t ∧
      t.rspData ≠ (inFlightState ⟨0x2#4, exampleId, testK0, testK1, 7#64⟩ 1 0#128 []).rspData ∧
      t.rspValid = 1#1 ∧ t.busy = 0#1 :=
  ⟨_, rfl, by decide +kernel, rfl, rfl⟩

/-- HandshakeFlagsChangeOnlyAtTheirEvents, the other two clauses: an accept that drops `rsp_valid` and raises
`busy`. -/
theorem test_meets_HandshakeFlags :
    ∃ t, step { idleState [fullPorts 0#1 1#1] with rspValid := 1#1 } = .next t ∧ t.rspValid = 0#1 ∧
      t.busy = 1#1 := by
  refine ⟨({ idleState [fullPorts 0#1 1#1] with rspValid := 1#1 } : State).accepted
      ⟨0x2#4, exampleId, testK0, testK1, 7#64⟩, ?_, rfl, rfl⟩
  rw [step_of_idle _ rfl rfl rfl rfl]
  rfl

/-- RequestInFlightCompletesOnTime: two edges left, reset low at both. -/
theorem test_meets_RequestInFlight :
    (inFlightState ⟨0x2#4, exampleId, testK0, testK1, 7#64⟩ 2 0#128 [fullPorts 0#1 1#1]).busy = 1#1 ∧
    ∀ p ∈ (inFlightState ⟨0x2#4, exampleId, testK0, testK1, 7#64⟩ 2 0#128 [fullPorts 0#1 1#1]).ports.take 2,
      p.rst = some 0#1 := by
  refine ⟨rfl, ?_⟩
  simp [inFlightState, fullPorts]

/-- A reset block at which `r` is offered, and `drive` after it. -/
def offering (r : Request) (drive : List Ports) : State := idleState (Ports.offer r :: drive)

/-- The block `offering r` accepts `r`. -/
theorem offering_atAccept (r : Request) (drive : List Ports) : (offering r drive).atAccept r :=
  ⟨⟨rfl, rfl⟩, rfl, rfl, rfl⟩

/-- One edge later `r` is in flight. -/
theorem offering_runs (r : Request) (drive : List Ports) :
    RunsTo 1 (offering r drive) (inFlightState r (Config.LAT r.op) 0#128 drive) := by
  rw [runsTo_succ]
  refine ⟨_, ?_, (runsTo_zero _ _).2 rfl⟩
  rw [step_of_idle _ rfl rfl rfl rfl]
  rfl

/-- AcceptedRequestIsAnsweredAfterItsLatency and AbnormalRequestsCompleteLikeAnyOther: offers of READ_TS, of the
first and last reserved code, and of KEYED_HASH with length 11, the host quiet after them. -/
theorem test_meets_AcceptedRequest (r : Request) :
    (offering r []).atAccept r ∧
    (∀ p ∈ ((offering r []).ports.drop 1).take (Config.LAT r.op), p.rst = some 0#1) ∧
    0x8#4 ≤ 0x8#4 ∧ 0x8#4 ≤ 0xf#4 ∧ 10 < ((11#64).extractLsb' 0 8).toNat :=
  ⟨offering_atAccept r [], by simp [offering, idleState], by decide⟩

theorem offering_noReset (r : Request) (k : Nat) : (offering r []).noResetFor k := by
  intro p hp
  have : p = Ports.offer r := by simpa [offering, idleState] using List.mem_of_mem_take hp
  subst this
  simp

/-- ResultWindow, first part, with one edge after the accept: that is within every latency. -/
theorem test_meets_ResultWindow_flight (r : Request) :
    (offering r []).atAccept r ∧ 1 ≤ 1 ∧ 1 ≤ Config.LAT r.op ∧ (offering r []).noResetFor 1 ∧
    RunsTo 1 (offering r []) (inFlightState r (Config.LAT r.op) 0#128 []) :=
  ⟨offering_atAccept r [], by omega, by simp [Config.LAT], offering_noReset r 1, offering_runs r []⟩

/-- A block that shows a response and has nothing to do. -/
def showing (d : Word128) : State := { idleState [] with rspValid := 1#1, rspData := d }

/-- ResultWindow, second part: one quiet edge. -/
theorem test_meets_ResultWindow_shown (d : Word128) :
    (showing d).wasReset = true ∧ (showing d).busy = 0#1 ∧ (showing d).rspValid = 1#1 ∧
    (showing d).noResetFor 1 ∧ (showing d).noAcceptFor 1 ∧ RunsTo 1 (showing d) (showing d) := by
  refine ⟨rfl, rfl, rfl, ?_, ?_, ?_⟩
  · intro p hp
    simp [showing, idleState] at hp
  · intro j t hj ht r hr
    obtain rfl : j = 0 := by omega
    rw [runsTo_zero] at ht
    subst ht
    exact absurd hr.2.2.1 (show ¬ (some 0#1 = some 1#1) by decide)
  · rw [runsTo_succ]
    refine ⟨showing d, ?_, (runsTo_zero _ _).2 rfl⟩
    rw [step_of_idle _ rfl rfl rfl rfl]
    rfl

/-- A request of a reserved code in flight while the host is quiet, up to its completion. -/
theorem quiet_flight_runs (r : Request) (hr : decodeRequest r = .reserved r.op r.id r.k0 r.k1 r.arg) (n : Nat)
    (rest : List Ports) :
    RunsTo (n + 1) (inFlightState r (n + 1) 0#128 (List.replicate (n + 1) Ports.quiet ++ rest))
      { idleState rest with rspValid := 1#1, rspStatus := 0b01#2 } := by
  induction n with
  | zero =>
    rw [runsTo_succ]
    refine ⟨_, ?_, (runsTo_zero _ _).2 rfl⟩
    rw [step_of_busy _ rfl rfl rfl]
    show exec (decodeRequest r) _ = _
    rw [hr]
    rfl
  | succ n ih =>
    rw [runsTo_succ]
    refine ⟨_, ?_, ih⟩
    rw [step_of_busy _ rfl rfl rfl]
    rfl

/-- AcceptsAreSpacedByTheLatency: two reserved requests, the second accepted right after the first's completion,
`LAT` + 1 edges later. -/
theorem test_meets_AcceptsAreSpaced (id id' : Word128) :
    ∃ (s t : State) (k : Nat), s.atAccept ⟨0x9#4, id, 0#64, 0#64, 0#64⟩ ∧ 0 < k ∧ s.noResetFor k ∧
      RunsTo k s t ∧ t.atAccept ⟨0xa#4, id', 0#64, 0#64, 0#64⟩ := by
  let r : Request := ⟨0x9#4, id, 0#64, 0#64, 0#64⟩
  let r' : Request := ⟨0xa#4, id', 0#64, 0#64, 0#64⟩
  refine ⟨offering r (List.replicate (Config.LAT r.op) Ports.quiet ++ [Ports.offer r']),
    { idleState [Ports.offer r'] with rspValid := 1#1, rspStatus := 0b01#2 }, Config.LAT r.op + 1,
    offering_atAccept _ _, by omega, ?_, ?_, ⟨⟨rfl, rfl⟩, rfl, rfl, rfl⟩⟩
  · intro p hp
    have hp := List.mem_of_mem_take hp
    simp only [offering, idleState, List.mem_cons, List.mem_append, List.mem_replicate, List.mem_nil_iff,
      or_false] at hp
    rcases hp with rfl | ⟨-, rfl⟩ | rfl <;> simp
  · rw [runsTo_succ]
    exact ⟨inFlightState r (Config.LAT r.op) 0#128
        (List.replicate (Config.LAT r.op) Ports.quiet ++ [Ports.offer r']),
      by rw [offering, step_of_idle _ rfl rfl rfl rfl]; rfl,
      quiet_flight_runs r rfl (Config.latencyBeyondOne r.op) [Ports.offer r']⟩

/-- ResetInFlightLosesTheRequest: the reset comes at the first edge after the accept. -/
theorem test_meets_ResetInFlight (r : Request) :
    (offering r [Ports.assertReset]).atAccept r ∧ 1 ≤ Config.LAT r.op ∧
    (offering r [Ports.assertReset]).noResetFor 1 ∧
    RunsTo 1 (offering r [Ports.assertReset]) (inFlightState r (Config.LAT r.op) 0#128 [Ports.assertReset]) ∧
    (inFlightState r (Config.LAT r.op) 0#128 [Ports.assertReset]).atReset := by
  refine ⟨offering_atAccept _ _, by simp [Config.LAT], ?_, offering_runs _ _, rfl⟩
  intro p hp
  have : p = Ports.offer r := by simpa [offering, idleState] using hp
  subst this
  simp

/-- WithoutResetEveryRequestIsAnsweredOnce: one accepting edge. -/
theorem test_meets_WithoutReset (r : Request) :
    (offering r []).wasReset = true ∧ (offering r []).noResetFor 1 ∧
    RunsTo 1 (offering r []) (inFlightState r (Config.LAT r.op) 0#128 []) :=
  ⟨rfl, offering_noReset r 1, offering_runs r []⟩

/-- TimingIsIndependentOfDataAndKeys: two accepts of one code with different operands and keys. -/
theorem test_meets_TimingIsIndependent (op : OpCode) (id id' : Word128) (k0 k1 arg j0 j1 arg' : Word64) :
    SameTiming (offering ⟨op, id, k0, k1, arg⟩ []) (offering ⟨op, id', j0, j1, arg'⟩ []) ∧
    RunsTo 1 (offering ⟨op, id, k0, k1, arg⟩ []) (inFlightState ⟨op, id, k0, k1, arg⟩ (Config.LAT op) 0#128 []) ∧
    RunsTo 1 (offering ⟨op, id', j0, j1, arg'⟩ [])
      (inFlightState ⟨op, id', j0, j1, arg'⟩ (Config.LAT op) 0#128 []) :=
  ⟨⟨rfl, rfl, rfl, rfl, rfl, .cons ⟨rfl, rfl, rfl⟩ .nil⟩, offering_runs _ _, offering_runs _ _⟩

/-- KeylessOperationsLeaveNoTraceOfTheKey: the ends of its range of codes, and both neighbours of 7. -/
theorem test_meets_Keyless :
    (inFlightState ⟨0x2#4, exampleId, testK0, testK1, 7#64⟩ 1 0#128 []).atCompletion ∧ 0x2#4 ≤ 0x2#4 ∧
    0x2#4 ≠ 0x7#4 ∧ 0x2#4 ≤ 0xf#4 ∧ 0xf#4 ≠ 0x7#4 ∧ 0x2#4 ≤ 0x6#4 ∧ 0x2#4 ≤ 0x8#4 :=
  ⟨⟨⟨rfl, rfl⟩, rfl, rfl⟩, by decide⟩

end Sys2Proof.Tests
end

/-! # Proofs, family 10_state: the clock edge, runs of edges, and the fields of an identifier -/

namespace Sys2Proof.Machine

/-! ### The completion of a request -/

theorem lengthIsBad_iff (arg : Word64) : lengthIsBad arg = true ↔ 10 < (arg.extractLsb' 0 8).toNat :=
  decide_eq_true_iff

/-- R177 against R79: KEYED_HASH completes with EXEC of its request, at a bad length too. -/
theorem execKeyedHash_eq_completed (id : Word128) (k0 k1 arg : Word64) (s : State) :
    execKeyedHash id k0 k1 arg s =
      .next (s.completed (EXEC ⟨0x7#4, id, k0, k1, arg⟩).status (EXEC ⟨0x7#4, id, k0, k1, arg⟩).data) := by
  rw [EXEC_keyedHash, execKeyedHash]
  by_cases hlen : 10 < (arg.extractLsb' 0 8).toNat
  · rw [if_pos ((lengthIsBad_iff arg).2 hlen), if_pos hlen]
    rfl
  · rw [if_neg (mt (lengthIsBad_iff arg).1 hlen), if_neg hlen]
    rfl

/-- R39, R79: running the instruction a request decodes to completes with EXEC of the request. -/
theorem exec_decodeRequest (r : Request) (s : State) :
    exec (decodeRequest r) s = .next (s.completed (EXEC r).status (EXEC r).data) := by
  obtain ⟨op, id, k0, k1, arg⟩ := r
  induction op using opCode_cases with
  | h n hn =>
    obtain hlt | rfl | hgt := lt_trichotomy n 7
    · interval_cases n <;> rfl
    · exact execKeyedHash_eq_completed id k0 k1 arg s
    · interval_cases n <;> rfl

/-- R76, R77: EXEC answers OK, or an error status with data zero. -/
theorem EXEC_status_cases (r : Request) :
    (EXEC r).status = statusOk ∨
      ((EXEC r).status = statusIllegalOp ∨ (EXEC r).status = statusBadLen) ∧ (EXEC r).data = 0#128 := by
  obtain ⟨op, id, k0, k1, arg⟩ := r
  induction op using opCode_cases with
  | h n hn =>
    obtain hlt | rfl | hgt := lt_trichotomy n 7
    · interval_cases n <;> exact .inl rfl
    · rw [EXEC_keyedHash]
      split
      · exact .inr ⟨.inr rfl, rfl⟩
      · exact .inl rfl
    · rw [EXEC_reserved n hn hgt]
      exact .inr ⟨.inl rfl, rfl⟩

/-- R31: EXEC never answers 0b11. -/
theorem EXEC_status_ne_neverProduced (r : Request) : (EXEC r).status ≠ statusNeverProduced := by
  rcases EXEC_status_cases r with h | ⟨h | h, -⟩ <;> rw [h] <;> decide

/-- R77: a status other than OK carries data zero. -/
theorem EXEC_data_of_error (r : Request) (h : (EXEC r).status ≠ statusOk) : (EXEC r).data = 0#128 := by
  rcases EXEC_status_cases r with hok | ⟨-, hd⟩
  · exact absurd hok h
  · exact hd

/-! ### One edge of each kind -/

/-- Past the end of the host's drive nothing is taken off it (log entry 2). -/
theorem State.popPorts_of_nil (s : State) (h : s.ports = []) : s.popPorts = s := by
  cases s
  cases h
  rfl

/-- R39: the edge that completes the request in flight. -/
theorem step_of_atCompletion {s : State} (h : s.atCompletion) :
    step s = .next (s.popPorts.completed (EXEC s.latched).status (EXEC s.latched).data) := by
  obtain ⟨⟨hw, hrst⟩, hb, hc⟩ := h
  rw [step_of_busy s hrst hw hb, busyEdge, if_pos (by simpa using hc), exec_decodeRequest,
    State.popPorts_latched]

/-- R39: the edge that counts down. -/
theorem step_of_countDown {s : State} (h : s.running) (hb : s.busy = 1#1) (hc : 1 < s.cnt) :
    step s = .next s.popPorts.countDown := by
  obtain ⟨hw, hrst⟩ := h
  rw [step_of_busy s hrst hw hb, busyEdge, if_neg (by simpa using hc.ne'),
    if_neg (by simpa using (Nat.zero_lt_of_lt hc).ne')]

/-- R39: the edge that accepts a request. -/
theorem step_of_atAccept {s : State} {r : Request} (h : s.atAccept r) : step s = .next (s.accepted r) := by
  obtain ⟨⟨hw, hrst⟩, hb, hv, hr⟩ := h
  rw [step_of_idle s hrst hw hb hv, idleEdge, if_pos hv, hr]
  rfl

/-- R39: the idle edge without an offer. -/
theorem step_of_noOffer {s : State} (h : s.running) (hb : s.busy = 0#1)
    (hv : s.nextPorts.reqValid = some 0#1) : step s = .next s.popPorts := by
  obtain ⟨hw, hrst⟩ := h
  rw [step_of_idle s hrst hw hb hv, idleEdge, if_neg (by simp [hv])]

/-- A completing edge leaves the completed state with EXEC of the latched request. -/
theorem completed_of_exec {s t : State} (h : exec (decodeRequest s.latched) s.popPorts = .next t) :
    t = s.popPorts.completed (EXEC s.latched).status (EXEC s.latched).data := by
  rw [exec_decodeRequest] at h
  exact (Host.Outcome.next.inj h).symm

/-- Settles O37: each branch is the equation of its kind of edge. -/
theorem clockEdgeTakesTheBranchOfTheRule : Obligations.ClockEdgeTakesTheBranchOfTheRule := by
  intro s hw
  refine ⟨fun hrst hv => ?reset, fun hrst hb hc => ?complete, fun hrst hb hc => ?count,
    fun r hrst hb hv hr => ?accept, fun hrst hb hv => ?idle, fun hp hb => ?past⟩
  case reset =>
    have hb : s.reqValidMatters = true → s.busy = 0#1 := by simp [State.reqValidMatters, hw]
    exact step_of_reset s hrst (hv ∘ hb)
  case complete =>
    rw [step_of_atCompletion ⟨⟨hw, hrst⟩, hb, hc⟩, State.completed, State.popPorts_wasReset, hw]
    rfl
  case count => exact step_of_countDown ⟨hw, hrst⟩ hb hc
  case accept => exact step_of_atAccept ⟨⟨hw, hrst⟩, hb, hv, hr⟩
  case idle => exact step_of_noOffer ⟨hw, hrst⟩ hb hv
  case past =>
    have hq : s.nextPorts = Ports.quiet := s.nextPorts_nil hp
    rw [step_of_noOffer ⟨hw, by rw [hq]; rfl⟩ hb (by rw [hq]; rfl), s.popPorts_of_nil hp]

/-- Settles O48: of the ways an edge can go, only reset and completion write the response registers. -/
theorem responseWrittenOnlyAtCompletionOrReset : Obligations.ResponseWrittenOnlyAtCompletionOrReset := by
  intro s t hw h hne
  cases step_next h with
  | reset hrst => exact .inl hrst
  | draw _ hw' => simp [hw] at hw'
  | complete hrst _ hb hc => exact .inr ⟨⟨hw, hrst⟩, hb, hc⟩
  | count _ _ _ _ ht => simp [ht] at hne
  | accept _ _ _ _ _ _ ht => simp [ht] at hne
  | idle _ _ _ _ ht => simp [ht] at hne

/-- Settles O49: at each kind of edge the new flags are known, which leaves only the named events. -/
theorem handshakeFlagsChangeOnlyAtTheirEvents : Obligations.HandshakeFlagsChangeOnlyAtTheirEvents := by
  intro s t hw h
  cases step_next h with
  | reset hrst ht =>
    subst ht
    exact ⟨by simp, fun _ _ => .inl hrst, by simp, fun hb _ => ⟨by simp [State.reqReady, hb], .inl hrst⟩⟩
  | draw _ hw' => simp [hw] at hw'
  | complete hrst _ hb hc ht =>
    have hdone : s.atCompletion := ⟨⟨hw, hrst⟩, hb, hc⟩
    obtain rfl := completed_of_exec ht
    exact ⟨fun _ _ => hdone, by simp [State.completed], by simp [State.completed],
      fun _ _ => ⟨by simp [State.reqReady, hb], .inr hdone⟩⟩
  | count _ _ hb _ ht =>
    subst ht
    refine ⟨?_, ?_, ?_, ?_⟩ <;> simp +contextual [hb]
  | accept r hrst _ hb hv hr ht =>
    have hacc : s.atAccept r := ⟨⟨hw, hrst⟩, hb, hv, hr⟩
    subst ht
    exact ⟨by simp, fun _ _ => .inr ⟨r, hacc⟩,
      fun _ _ => ⟨by simp [State.reqReady, hb], r, hacc, rfl⟩, by simp⟩
  | idle _ _ hb _ ht =>
    subst ht
    refine ⟨?_, ?_, ?_, ?_⟩ <;> simp +contextual [hb]

/-! ### The invariant -/

/-- A block just reset is consistent: every element is zero (R38). -/
theorem State.toReset_consistent (s : State) : s.toReset.Consistent where
  idleLatches _ := ⟨rfl, rfl, rfl, rfl, rfl⟩
  idleCount _ := rfl
  flightCount hb := by simp at hb
  flightValid hb := by simp at hb
  statusLegal := show statusOk ≠ statusNeverProduced by decide
  errorData _ := rfl

/-- A completion with EXEC's response leaves a consistent block (R31, R33, R77). -/
theorem State.completed_consistent (s : State) (r : Request) :
    (s.completed (EXEC r).status (EXEC r).data).Consistent where
  idleLatches _ := ⟨rfl, rfl, rfl, rfl, rfl⟩
  idleCount _ := rfl
  flightCount hb := by simp [State.completed] at hb
  flightValid hb := by simp [State.completed] at hb
  statusLegal := EXEC_status_ne_neverProduced r
  errorData h := EXEC_data_of_error r h

/-- An accept with the operation's latency keeps consistency (R39, R239). -/
theorem State.Consistent.accept {s : State} (h : s.Consistent) (r : Request) :
    (s.accept r (Config.LAT r.op)).Consistent where
  idleLatches hb := by simp at hb
  idleCount hb := by simp at hb
  flightCount _ := ⟨Nat.succ_pos _, le_refl _⟩
  flightValid _ := rfl
  statusLegal := h.statusLegal
  errorData := h.errorData

/-- Counting down from more than one edge keeps the consistency of a block in flight (R39). -/
theorem State.Consistent.countDown {s : State} (h : s.Consistent) (hb : s.busy = 1#1) (hc : 1 < s.cnt) :
    s.countDown.Consistent where
  idleLatches hi := by simp [hb] at hi
  idleCount hi := by simp [hb] at hi
  flightCount _ := by
    have hle := (h.flightCount hb).2
    simp only [State.countDown_cnt, State.countDown_latOp]
    omega
  flightValid := h.flightValid
  statusLegal := h.statusLegal
  errorData := h.errorData

/-- Consistency does not speak of the host's drive. -/
theorem State.Consistent.popPorts {s : State} (h : s.Consistent) : s.popPorts.Consistent where
  idleLatches := h.idleLatches
  idleCount := h.idleCount
  flightCount := h.flightCount
  flightValid := h.flightValid
  statusLegal := h.statusLegal
  errorData := h.errorData

/-- Settles O46: each kind of edge leaves a consistent block, or one that has not been reset yet. -/
theorem stepKeepsTheInvariant : Obligations.StepKeepsTheInvariant := by
  intro s t hs h
  cases step_next h with
  | reset _ ht => exact fun _ => ht ▸ s.popPorts.toReset_consistent
  | draw _ hw _ ht => exact fun hw' => by simp [ht, hw] at hw'
  | complete _ _ _ _ ht => exact fun _ => completed_of_exec ht ▸ s.popPorts.completed_consistent s.latched
  | count _ hw hb hc ht => exact fun _ => ht ▸ (hs hw).popPorts.countDown hb hc
  | accept r _ hw _ _ _ ht => exact fun _ => ht ▸ (hs hw).popPorts.accept r
  | idle _ hw _ _ ht => exact fun _ => ht ▸ (hs hw).popPorts

/-- Settles O45: a block just reset is consistent, and at power-up no reset has happened. -/
theorem invHoldsAfterResetAndAtPowerUp : Obligations.InvHoldsAfterResetAndAtPowerUp := by
  intro drive
  have hreset : ({ State.reset with ports := drive } : State).Consistent :=
    ({ State.reset with ports := drive } : State).toReset_consistent
  have hpower : (State.powerUp drive).wasReset = false := rfl
  exact ⟨fun _ => hreset, hreset, fun hw => by simp [hpower] at hw⟩

/-! ### The host's drive along a run -/

/-- What holds of every edge driven among the next `k + 1`, and of a quiet edge, holds of the next edge. -/
theorem State.nextPorts_of_take {P : Ports → Prop} {s : State} {k : Nat} (hquiet : P Ports.quiet)
    (h : ∀ p ∈ s.ports.take (k + 1), P p) : P s.nextPorts := by
  cases hp : s.ports with
  | nil => rwa [s.nextPorts_nil hp]
  | cons p rest =>
    rw [s.nextPorts_cons p rest hp]
    exact h p (by simp [hp])

/-- The edges after the next one are those of the drive with its first entry taken off. -/
theorem forall_mem_take_tail {P : Ports → Prop} {l : List Ports} {k : Nat}
    (h : ∀ p ∈ l.take (k + 1), P p) : ∀ p ∈ l.tail.take k, P p := by
  cases l with
  | nil => simp
  | cons p rest => exact fun q hq => h q (List.mem_cons_of_mem p hq)

/-- Every edge takes one entry off the host's drive. -/
theorem step_ports {s t : State} (h : step s = .next t) : t.ports = s.ports.tail := by
  cases step_next h with
  | reset _ ht => rw [ht]; rfl
  | draw _ _ _ ht => rw [ht]; rfl
  | complete _ _ _ _ ht => rw [completed_of_exec ht]; rfl
  | count _ _ _ _ ht => rw [ht]; rfl
  | accept _ _ _ _ _ _ ht => rw [ht]; rfl
  | idle _ _ _ _ ht => rw [ht]; rfl

/-- An edge is no reset if none of the next `k + 1` is. -/
theorem State.noResetFor.not_atReset {s : State} {k : Nat} (h : s.noResetFor (k + 1)) : ¬ s.atReset :=
  State.nextPorts_of_take (P := fun p => p.rst ≠ some 1#1) (by simp) h

/-- A drive without reset stays one as its first edge goes by. -/
theorem State.noResetFor.step {s t : State} {k : Nat} (h : s.noResetFor (k + 1)) (hst : step s = .next t) :
    t.noResetFor k := by
  intro p hp
  rw [step_ports hst] at hp
  exact forall_mem_take_tail h p hp

/-! ### A request in flight -/

/-- R39: a request with `n + 1` edges left completes after them, by induction on the edges left. -/
theorem runsTo_completed (n : Nat) : ∀ s : State, s.wasReset = true → s.busy = 1#1 → s.cnt = n + 1 →
    (∀ p ∈ s.ports.take (n + 1), p.rst = some 0#1) →
    RunsTo (n + 1) s (({ s with ports := s.ports.drop (n + 1) } : State).completed (EXEC s.latched).status
      (EXEC s.latched).data) := by
  induction n with
  | zero =>
    intro s hw hb hc hrst
    have hrun : s.running := ⟨hw, State.nextPorts_of_take (P := (·.rst = some 0#1)) rfl hrst⟩
    refine (runsTo_succ ..).2 ⟨_, step_of_atCompletion ⟨hrun, hb, hc⟩, (runsTo_zero ..).2 ?_⟩
    simp [State.completed]
  | succ n ih =>
    intro s hw hb hc hrst
    have hrun : s.running := ⟨hw, State.nextPorts_of_take (P := (·.rst = some 0#1)) rfl hrst⟩
    refine (runsTo_succ ..).2 ⟨_, step_of_countDown hrun hb (by omega), ?_⟩
    have hrest := ih s.popPorts.countDown hw hb (by simp [hc]) (forall_mem_take_tail hrst)
    simpa [State.completed] using hrest

/-- Settles O50: the run of the edges left, each of them a countdown but the last. -/
theorem requestInFlightCompletesOnTime : Obligations.RequestInFlightCompletesOnTime := by
  intro s hw hb hc hrst
  obtain ⟨n, hn⟩ := Nat.exists_eq_add_of_le' hc
  rw [hn] at hrst ⊢
  exact runsTo_completed n s hw hb hn hrst

/-- Settles O51: after the accepting edge the request is in flight with its whole latency left. -/
theorem acceptedRequestIsAnsweredAfterItsLatency : Obligations.AcceptedRequestIsAnsweredAfterItsLatency := by
  intro s r hacc hrst
  have hw : s.wasReset = true := hacc.1.1
  refine (runsTo_succ ..).2 ⟨s.accepted r, step_of_atAccept hacc, ?_⟩
  rw [List.drop_one] at hrst
  have hrun := requestInFlightCompletesOnTime (s.accepted r) hw rfl (Nat.succ_pos _) hrst
  simpa [State.completed, State.accepted, State.latched] using hrun

/-! ### The transcript of a run -/

/-- The request the next edge answers, if it answers one (R39). -/
def State.answering (s : State) : List Request := if s.completing = true then [s.latched] else []

theorem State.completing_iff (s : State) : s.completing = true ↔ s.atCompletion := by
  simp [State.completing, State.atCompletion, State.running, and_assoc]

theorem State.answering_of_atCompletion {s : State} (h : s.atCompletion) : s.answering = [s.latched] :=
  if_pos (s.completing_iff.2 h)

theorem State.answering_of_not_atCompletion {s : State} (h : ¬ s.atCompletion) : s.answering = [] :=
  if_neg (mt s.completing_iff.1 h)

theorem State.accepting_of_atAccept {s : State} {r : Request} (h : s.atAccept r) : s.accepting = some r := by
  obtain ⟨⟨hw, hrst⟩, hb, hv, hr⟩ := h
  simp [State.accepting, hw, hrst, hb, hv, hr, Except.toOption]

theorem State.inFlight_of_busy {s : State} (hw : s.wasReset = true) (hb : s.busy = 1#1) :
    s.inFlight = [s.latched] := if_pos ⟨hw, hb⟩

theorem State.inFlight_of_idle {s : State} (hb : s.busy = 0#1) : s.inFlight = [] := if_neg (by simp [hb])

theorem transcript_requests_next {k : Nat} {s t : State} (h : step s = .next t) :
    (transcript (k + 1) s).map (·.1) = s.answering ++ (transcript k t).map (·.1) := by
  rw [transcript_next h, State.answering]
  split <;> rfl

/-- The conservation law of one edge that is no reset: what it answers and leaves in flight is what was in
flight and what it accepts, in order (R40, R61). -/
theorem step_conserves_requests {s t : State} (h : step s = .next t) (hno : ¬ s.atReset) :
    s.answering ++ t.inFlight = s.inFlight ++ s.accepting.toList := by
  cases step_next h with
  | reset hrst => exact absurd hrst hno
  | draw _ hw _ ht =>
    subst ht
    simp [State.answering, State.completing, State.inFlight, State.accepting, hw]
  | complete hrst hw hb hc ht =>
    obtain rfl := completed_of_exec ht
    rw [State.answering_of_atCompletion ⟨⟨hw, hrst⟩, hb, hc⟩, State.inFlight_of_busy hw hb,
      State.inFlight_of_idle rfl]
    simp [State.accepting, hb]
  | count _ hw hb hc ht =>
    subst ht
    rw [State.answering_of_not_atCompletion fun hd => by simp [hd.2.2] at hc, State.inFlight_of_busy hw hb,
      State.inFlight_of_busy (by simpa using hw) (by simpa using hb)]
    simp [State.accepting, hb]
  | accept r hrst hw hb hv hr ht =>
    subst ht
    rw [State.answering_of_not_atCompletion fun hd => by simp [hd.2.1] at hb, State.inFlight_of_idle hb,
      State.accepting_of_atAccept ⟨⟨hw, hrst⟩, hb, hv, hr⟩,
      State.inFlight_of_busy (by simpa using hw) (by simp)]
    simp
  | idle _ _ hb hv ht =>
    subst ht
    rw [State.answering_of_not_atCompletion fun hd => by simp [hd.2.1] at hb, State.inFlight_of_idle hb,
      State.inFlight_of_idle (by simpa using hb)]
    simp [State.accepting, hv]

theorem State.atReset.rst_ne_zero {s : State} (h : s.atReset) : s.nextPorts.rst ≠ some 0#1 := by
  rw [show s.nextPorts.rst = some 1#1 from h]
  decide

/-- At a reset edge a next state can only be the reset one (R230). -/
theorem toReset_of_atReset {s t : State} (h : step s = .next t) (hrst : s.atReset) :
    t = s.popPorts.toReset := by
  have hno := hrst.rst_ne_zero
  cases step_next h with
  | reset _ ht => exact ht
  | draw h0 => exact absurd h0 hno
  | complete h0 => exact absurd h0 hno
  | count h0 => exact absurd h0 hno
  | accept _ h0 => exact absurd h0 hno
  | idle h0 => exact absurd h0 hno

/-- Any edge answers, and leaves in flight, only requests that were in flight or that it accepts, in order: a
reset edge answers none and leaves none (R240), and every other edge conserves them. -/
theorem step_requests_sublist {s t : State} (h : step s = .next t) :
    (s.answering ++ t.inFlight).Sublist (s.inFlight ++ s.accepting.toList) := by
  by_cases hrst : s.atReset
  · have hdone : ¬ s.atCompletion := fun ⟨⟨_, h0⟩, _⟩ => hrst.rst_ne_zero h0
    rw [State.answering_of_not_atCompletion hdone, toReset_of_atReset h hrst, State.inFlight_of_idle rfl]
    exact List.nil_sublist _
  · rw [step_conserves_requests h hrst]

/-- R40: every pair of a transcript is a request with EXEC of it, by induction on the edges. -/
theorem transcript_response_eq_EXEC (k : Nat) :
    ∀ s : State, ∀ pair ∈ transcript k s, pair.2 = EXEC pair.1 := by
  induction k with
  | zero => simp [transcript]
  | succ k ih =>
    intro s
    cases h : step s with
    | next t =>
      rw [transcript_next h]
      split
      · rename_i hc
        have ht := (step_of_atCompletion (s.completing_iff.1 hc)).symm.trans h
        obtain rfl := Host.Outcome.next.inj ht
        exact List.forall_mem_cons.2 ⟨rfl, ih _⟩
      · exact ih t
    | fault e => simp [transcript, h]
    | refused e => simp [transcript, h]

/-- R40: the answered requests are, in order, of those in flight and accepted, by induction on the edges. -/
theorem transcript_requests_sublist (k : Nat) :
    ∀ s : State, ((transcript k s).map (·.1)).Sublist (s.inFlight ++ acceptedIn k s) := by
  induction k with
  | zero => simp [transcript]
  | succ k ih =>
    intro s
    cases h : step s with
    | next t =>
      rw [transcript_requests_next h, acceptedIn_next h]
      have hrest : (s.answering ++ (transcript k t).map (·.1)).Sublist
          (s.answering ++ (t.inFlight ++ acceptedIn k t)) := (ih t).append_left _
      have hstep := (step_requests_sublist h).append_right (acceptedIn k t)
      simp only [List.append_assoc] at hstep
      exact hrest.trans hstep
    | fault e => simp [transcript, h]
    | refused e => simp [transcript, h]

/-- Settles O56: the responses and the order of the requests, each by induction on the edges. -/
theorem everyResponseIsExecOfItsRequestInOrder : Obligations.EveryResponseIsExecOfItsRequestInOrder :=
  fun k s => ⟨transcript_response_eq_EXEC k s, transcript_requests_sublist k s⟩

/-- The conservation law of a run without reset: the law of one edge, summed by induction on the edges. -/
theorem run_conserves_requests (k : Nat) : ∀ s t : State, s.noResetFor k → RunsTo k s t →
    (transcript k s).map (·.1) ++ t.inFlight = s.inFlight ++ acceptedIn k s := by
  induction k with
  | zero =>
    intro s t _ hrun
    obtain rfl := (runsTo_zero s t).1 hrun
    simp [transcript, acceptedIn]
  | succ k ih =>
    intro s t hno hrun
    obtain ⟨u, hstep, hrun⟩ := (runsTo_succ k s t).1 hrun
    calc (transcript (k + 1) s).map (·.1) ++ t.inFlight
        = s.answering ++ ((transcript k u).map (·.1) ++ t.inFlight) := by
          rw [transcript_requests_next hstep, List.append_assoc]
      _ = s.answering ++ u.inFlight ++ acceptedIn k u := by
          rw [ih u t (hno.step hstep) hrun, List.append_assoc]
      _ = s.inFlight ++ acceptedIn (k + 1) s := by
          rw [step_conserves_requests hstep hno.not_atReset, acceptedIn_next hstep, List.append_assoc]

/-- Settles O57: requests are conserved by every edge that is no reset, so by the whole run. -/
theorem withoutResetEveryRequestIsAnsweredOnce : Obligations.WithoutResetEveryRequestIsAnsweredOnce :=
  fun k s t _ hno hrun => run_conserves_requests k s t hno hrun

/-! ### Bit strings side by side -/

/-- Each of five bit strings side by side is the range of its own bits (R23, R70). -/
theorem extractLsb'_of_five_fields {m n p q r : Nat} (a : BitVec m) (b : BitVec n) (c : BitVec p)
    (d : BitVec q) (e : BitVec r) :
    (a ++ b ++ c ++ d ++ e).extractLsb' (n + p + q + r) m = a ∧
    (a ++ b ++ c ++ d ++ e).extractLsb' (p + q + r) n = b ∧
    (a ++ b ++ c ++ d ++ e).extractLsb' (q + r) p = c ∧
    (a ++ b ++ c ++ d ++ e).extractLsb' r q = d ∧
    (a ++ b ++ c ++ d ++ e).extractLsb' 0 r = e := by
  refine ⟨?_, ?_, ?_, ?_, ?_⟩ <;>
    simp [BitVec.extractLsb'_append_eq_of_le, BitVec.extractLsb'_append_eq_right]

/-- A range of a range of bits is a range of the whole. -/
theorem extractLsb'_extractLsb' {w b len' start len : Nat} (x : BitVec w) (h : start + len ≤ len') :
    (x.extractLsb' b len').extractLsb' start len = x.extractLsb' (b + start) len := by
  apply BitVec.eq_of_getLsbD_eq
  intro i hi
  simp [hi, Nat.add_assoc, show start + i < len' by omega]

/-! ### The instruction a step runs -/

/-- R70: the fields of a request's listing word are the request's. -/
theorem ofWord_toWord (r : Request) : Request.ofWord r.toWord = r := by
  obtain ⟨hop, harg, hk1, hk0, hid⟩ := extractLsb'_of_five_fields r.op r.arg r.k1 r.k0 r.id
  rw [Request.ofWord, Request.mk.injEq]
  exact ⟨hop, hid, hk0, hk1, harg⟩

/-- R70, R71: a request is the one the host drives for the instruction it decodes to. -/
theorem toRequest_decodeRequest (r : Request) : (decodeRequest r).toRequest = r := by
  obtain ⟨op, id, k0, k1, arg⟩ := r
  induction op using opCode_cases with
  | h n hn => interval_cases n <;> rfl

/-- The instruction of a table number is that of its request. -/
theorem decodeRequest_requestOfTableWord {nbits w : Nat} {i : Instr} (h : decodeTableWord nbits w = some i) :
    decodeRequest (requestOfTableWord nbits w) = i := by
  unfold decodeTableWord decodeNumber at h
  split at h
  · exact Option.some.inj h
  · cases h

/-- Settles O38: the decoder reads the latched request back from its word. -/
theorem stepRunsTheDecodedInstruction : Obligations.StepRunsTheDecodedInstruction := by
  rintro s i ⟨⟨hw, hrst⟩, hb, hc⟩ rfl -
  rw [step_of_busy s hrst hw hb, busyEdge, if_pos (by simpa using hc), Sys2Proof.decode,
    ofWord_toWord]
  rfl

/-- Settles O39: the placed request is in flight with one edge left and a quiet edge to come. -/
theorem placedInstructionRunsNext : Obligations.PlacedInstructionRunsNext := by
  intro s nbits w i hi
  obtain rfl := decodeRequest_requestOfTableWord hi
  refine ⟨(s.withFetchWord nbits w).popPorts, ?_, rfl, ?_, rfl, rfl, rfl⟩
  · rw [step_of_busy _ rfl rfl rfl]
    rfl
  · exact (toRequest_decodeRequest _).symm

/-! ### The fields of an identifier -/

/-- Settles O19: neighbouring bit ranges side by side are one bit range, and a part of a byte is one too. -/
theorem fieldsAreTheirBitRanges : Obligations.FieldsAreTheirBitRanges := by
  intro I
  refine ⟨?ts, ?ver, ?pa, ?var, ?pb⟩
  case ts =>
    simp only [fieldTs, unpack128_getElem]
    iterate 5 rw [BitVec.extractLsb'_append_extractLsb'_eq_extractLsb' (by decide)]
  case ver => rw [fieldVer, unpack128_getElem, extractLsb'_extractLsb' I (by decide)]
  case pa =>
    simp only [fieldPa, unpack128_getElem]
    rw [extractLsb'_extractLsb' I (by decide), BitVec.extractLsb'_append_extractLsb'_eq_extractLsb' (by decide)]
  case var => rw [fieldVar, unpack128_getElem, extractLsb'_extractLsb' I (by decide)]
  case pb =>
    simp only [fieldPb, unpack128_getElem]
    rw [extractLsb'_extractLsb' I (by decide)]
    iterate 7 rw [BitVec.extractLsb'_append_extractLsb'_eq_extractLsb' (by decide)]

/-- Settles O20: the identifier with given fields is the unpacked concatenation of them. -/
theorem fieldsPartitionTheIdentifier : Obligations.FieldsPartitionTheIdentifier := by
  refine ⟨bytes16_cases fun I => ?_, fun t v a w b => ⟨unpack128 (t ++ v ++ a ++ w ++ b), ?_⟩⟩
  · obtain ⟨hts, hver, hpa, hvar, hpb⟩ := fieldsAreTheirBitRanges I
    rw [pack128_unpack128, hts, hver, hpa, hvar, hpb]
    iterate 4 rw [BitVec.extractLsb'_append_extractLsb'_eq_extractLsb' (by decide)]
    exact BitVec.extractLsb'_eq_self.symm
  · obtain ⟨hts, hver, hpa, hvar, hpb⟩ := fieldsAreTheirBitRanges (t ++ v ++ a ++ w ++ b)
    rw [hts, hver, hpa, hvar, hpb]
    exact extractLsb'_of_five_fields t v a w b

end Sys2Proof.Machine

/-! # Proofs, family 20_memory: what the host and the key cannot influence -/

namespace Sys2Proof.Machine

/-! ### What the host drives while a request is in flight -/

/-- R64: at an edge without reset, a busy block's step is the same function of the state and the later drives
whatever the host drives at that edge. -/
theorem step_cons_of_busy {s : State} {p : Ports} (rest : List Ports) (hp : p.rst = some 0#1)
    (hw : s.wasReset = true) (hb : s.busy = 1#1) :
    step { s with ports := p :: rest } = busyEdge { s with ports := rest } :=
  step_of_busy { s with ports := p :: rest } hp hw hb

/-- R39: a busy edge that does not complete keeps the request in flight. -/
theorem latched_and_busy_of_busyEdge {s t : State} (h : busyEdge s = .next t) (hc : s.cnt ≠ 1) :
    t.latched = s.latched ∧ t.busy = s.busy := by
  obtain ⟨hdone, _⟩ | ⟨_, rfl⟩ := busyEdge_next h
  · exact absurd hdone hc
  · exact ⟨s.countDown_latched, s.countDown_busy⟩

/-- Settles O42: under either drive the step is the busy edge of the state with that drive taken off. -/
theorem offersWhileBusyHaveNoEffect : Obligations.OffersWhileBusyHaveNoEffect := by
  intro s p q rest hw hb hp hq
  have hstep := step_cons_of_busy rest hp hw hb
  refine ⟨hstep.trans (step_cons_of_busy rest hq hw hb).symm, fun t ht hc => ?_⟩
  rw [hstep] at ht
  obtain ⟨hlatched, hbusy⟩ := latched_and_busy_of_busyEdge ht hc
  exact ⟨hlatched, hbusy.trans hb⟩

/-! ### Operations that read no key -/

/-- R72, R82: EXEC reads a key only for ENCODE, DECODE and KEYED_HASH. -/
theorem EXEC_keys_irrelevant {op : OpCode} (h2 : 0x2#4 ≤ op) (h7 : op ≠ 0x7#4) (id : Word128)
    (k0 k1 j0 j1 arg : Word64) : EXEC ⟨op, id, k0, k1, arg⟩ = EXEC ⟨op, id, j0, j1, arg⟩ := by
  induction op using opCode_cases with
  | h n hn =>
    obtain hlt | rfl | hgt := lt_trichotomy n 7
    · have hn2 : 2 ≤ n := by simpa [BitVec.le_def, Nat.mod_eq_of_lt hn] using h2
      interval_cases n <;>
        simp only [EXEC_readTs, EXEC_writeTs, EXEC_setVersion, EXEC_setVariant, EXEC_buildMaskInput]
    · exact absurd rfl h7
    · rw [EXEC_reserved n hn hgt, EXEC_reserved n hn hgt]

/-- R33: a completion clears the latches. -/
theorem State.completed_latchesZero (s : State) (status : BitVec 2) (data : Word128) :
    (s.completed status data).latchesZero := ⟨rfl, rfl, rfl, rfl, rfl⟩

/-- Settles O59: a completion keeps of the latches only EXEC's response, and that reads no key here. -/
theorem keylessOperationsLeaveNoTraceOfTheKey : Obligations.KeylessOperationsLeaveNoTraceOfTheKey := by
  intro s j0 j1 hdone h2 h7
  have hdone' : ({ s with latK0 := j0, latK1 := j1 } : State).atCompletion := hdone
  refine ⟨_, step_of_atCompletion hdone, ?_, State.completed_latchesZero _ _ _⟩
  have hexec : EXEC ({ s with latK0 := j0, latK1 := j1 } : State).latched = EXEC s.latched :=
    EXEC_keys_irrelevant h2 h7 s.latId j0 j1 s.latK0 s.latK1 s.latArg
  rw [step_of_atCompletion hdone', hexec]
  rfl

end Sys2Proof.Machine

/-! # Proofs, family 30_encoding: the listing word, the opcode map and the result function -/

namespace Sys2Proof.Machine

/-! ### The opcode map -/

/-- R71, R75: a reserved code decodes to the reserved row, whatever the operands are. -/
theorem decodeRequest_of_reserved {r : Request} (h : 0x8#4 ≤ r.op) :
    decodeRequest r = .reserved r.op r.id r.k0 r.k1 r.arg := by
  obtain ⟨op, id, k0, k1, arg⟩ := r
  induction op using opCode_cases with
  | h n hn =>
    have h8 : 8 ≤ n := by simpa [BitVec.le_def, Nat.mod_eq_of_lt hn] using h
    interval_cases n <;> rfl

/-- Settles O3: below 0x8 the map computes row by row, and from 0x8 on it is the reserved row. -/
theorem operationIsSelectedByOpAlone : Obligations.OperationIsSelectedByOpAlone :=
  fun _ _ _ _ => ⟨rfl, rfl, rfl, rfl, rfl, rfl, rfl, rfl, fun _ h => decodeRequest_of_reserved h⟩

/-- R71: the operands take no part in selecting the row. -/
theorem mnemonic_decodeRequest (op : OpCode) (id : Word128) (k0 k1 arg : Word64) :
    (decodeRequest ⟨op, id, k0, k1, arg⟩).mnemonic = (decodeRequest ⟨op, 0, 0, 0, 0⟩).mnemonic := by
  induction op using opCode_cases with
  | h n hn => interval_cases n <;> rfl

/-- R83: the rows that match a code are one, the row of its operation. -/
theorem tableRowsOf_eq_mnemonic (op : OpCode) :
    tableRowsOf op = [(decodeRequest ⟨op, 0, 0, 0, 0⟩).mnemonic] := by
  revert op; decide

/-- Settles O4: `op` is bits 323:320 of the word, and its one row is that of the decoded request. -/
theorem eachWordMatchesExactlyOneTableRow : Obligations.EachWordMatchesExactlyOneTableRow :=
  ⟨fun w => by rw [tableRowsOf_eq_mnemonic, ← mnemonic_decodeRequest]; rfl, rfl, by decide⟩

/-! ### Decode and encode -/

/-- R75, R83: bit 3 is set from 0x8 on. -/
theorem isReservedOp_iff (op : OpCode) : isReservedOp op = true ↔ 0x8#4 ≤ op := by
  revert op; decide

/-- R75: every request decodes to a well-formed instruction. -/
theorem wf_decodeRequest (r : Request) : (decodeRequest r).wf = true := by
  by_cases h8 : 0x8#4 ≤ r.op
  · rw [decodeRequest_of_reserved h8]
    exact (isReservedOp_iff r.op).2 h8
  · obtain ⟨op, id, k0, k1, arg⟩ := r
    induction op using opCode_cases with
    | h n hn =>
      have hlt : n < 8 := by simpa [BitVec.le_def, Nat.mod_eq_of_lt hn] using h8
      interval_cases n <;> rfl

/-- R71, R75: the request of a well-formed instruction decodes to it. -/
theorem decodeRequest_toRequest {i : Instr} (h : i.wf = true) : decodeRequest i.toRequest = i := by
  cases i with
  | reserved op id k0 k1 arg => exact Laws.RoundTrip.reserved op id k0 k1 arg h
  | _ => rfl

/-- R70: the fields of a listing word, side by side, are the word. -/
theorem toWord_ofWord (w : Reqw) : (Request.ofWord w).toWord = w := by
  simp only [Request.toWord, Request.ofWord]
  iterate 4 rw [BitVec.extractLsb'_append_extractLsb'_eq_extractLsb' (by decide)]
  exact BitVec.extractLsb'_eq_self

/-- Settles O1: the word gives the request back, and the request the instruction. -/
theorem decodeOfEncodeIsTheInstruction : Obligations.DecodeOfEncodeIsTheInstruction := by
  intro i hwf
  calc Sys2Proof.decode (Sys2Proof.encode i)
      = decodeRequest i.toRequest := by rw [Sys2Proof.decode, Sys2Proof.encode, ofWord_toWord]
    _ = i := decodeRequest_toRequest hwf

/-- Settles O2: the instruction gives the request back, and the request the word. -/
theorem encodeOfDecodeIsTheWord : Obligations.EncodeOfDecodeIsTheWord := by
  refine fun w => ⟨wf_decodeRequest _, ?_⟩
  calc Sys2Proof.encode (Sys2Proof.decode w)
      = (Request.ofWord w).toWord := by rw [Sys2Proof.encode, Sys2Proof.decode, toRequest_decodeRequest]
    _ = w := toWord_ofWord w

/-- Settles O5: each of the five bit strings side by side is the range of its own bits. -/
theorem requestWordFieldPositions : Obligations.RequestWordFieldPositions :=
  fun r => ⟨rfl, extractLsb'_of_five_fields r.op r.arg r.k1 r.k0 r.id⟩

/-- Settles O6: each of the four words is computed. -/
theorem publishedListingWordsDecode : Obligations.PublishedListingWordsDecode :=
  ⟨by decide +kernel, by decide +kernel, by decide +kernel, by decide +kernel⟩

/-! ### The status of a request -/

theorem statusOf_eq_ok_iff (op : OpCode) (arg : Word64) :
    statusOf op arg = 0b00#2 ↔ op ≤ 0x6#4 ∨ (op = 0x7#4 ∧ (arg.extractLsb' 0 8).toNat ≤ 10) := by
  simp only [statusOf, lengthIsBad_iff, statusOk, statusIllegalOp, statusBadLen]
  generalize (arg.extractLsb' 0 8).toNat = len
  split_ifs with hreserved hlen
  · bv_omega
  · bv_omega
  · exact iff_of_true rfl (by bv_omega)

theorem statusOf_eq_illegalOp_iff (op : OpCode) (arg : Word64) :
    statusOf op arg = 0b01#2 ↔ 0x8#4 ≤ op := by
  simp only [statusOf, lengthIsBad_iff, statusOk, statusIllegalOp, statusBadLen]
  split_ifs with hreserved hlen
  · exact iff_of_true rfl hreserved
  · bv_omega
  · bv_omega

theorem statusOf_eq_badLen_iff (op : OpCode) (arg : Word64) :
    statusOf op arg = 0b10#2 ↔ op = 0x7#4 ∧ 11 ≤ (arg.extractLsb' 0 8).toNat := by
  simp only [statusOf, lengthIsBad_iff, statusOk, statusIllegalOp, statusBadLen]
  generalize (arg.extractLsb' 0 8).toNat = len
  split_ifs with hreserved hlen
  · bv_omega
  · exact iff_of_true rfl hlen
  · bv_omega

/-- R76: EXEC's status is the one the code and the length have. -/
theorem EXEC_status (r : Request) : (EXEC r).status = statusOf r.op r.arg := by
  obtain ⟨op, id, k0, k1, arg⟩ := r
  induction op using opCode_cases with
  | h n hn =>
    obtain hlt | rfl | hgt := lt_trichotomy n 7
    · interval_cases n <;> rfl
    · rw [EXEC_keyedHash]
      split
      case isTrue hlen => exact ((statusOf_eq_badLen_iff _ _).2 ⟨rfl, hlen⟩).symm
      case isFalse hlen => exact ((statusOf_eq_ok_iff _ _).2 (.inr ⟨rfl, not_lt.1 hlen⟩)).symm
    · rw [EXEC_reserved n hn hgt]
      interval_cases n <;> rfl

/-- Settles O17: the status is tabulated, 0b11 is not in the table, and an error's data is zero. -/
theorem statusIsAsTabulatedAndErrorsCarryNoData : Obligations.StatusIsAsTabulatedAndErrorsCarryNoData := by
  refine fun r => ⟨?_, ?_, ?_, EXEC_status_ne_neverProduced r, EXEC_data_of_error r⟩ <;> rw [EXEC_status]
  · exact statusOf_eq_ok_iff r.op r.arg
  · exact statusOf_eq_illegalOp_iff r.op r.arg
  · exact statusOf_eq_badLen_iff r.op r.arg

/-- Settles O15: the reserved row's completion is computed. -/
theorem reservedCodesCompleteWithIllegalOp : Obligations.ReservedCodesCompleteWithIllegalOp :=
  fun op id k0 k1 arg s h => ⟨by rw [decodeRequest_of_reserved h], rfl⟩

/-- Settles O16: this is the completion of every request, said once. -/
theorem completionComputesTheResultFunction : Obligations.CompletionComputesTheResultFunction :=
  exec_decodeRequest

/-- R75, R76: a request with a reserved code or a bad length has its error status. -/
theorem EXEC_status_of_abnormal {r : Request} {st : BitVec 2}
    (h : 0x8#4 ≤ r.op ∧ st = 0b01#2 ∨ r.op = 0x7#4 ∧ 10 < (r.arg.extractLsb' 0 8).toNat ∧ st = 0b10#2) :
    (EXEC r).status = st ∧ st ≠ statusOk := by
  rw [EXEC_status]
  obtain ⟨h8, rfl⟩ | ⟨h7, hlen, rfl⟩ := h
  · exact ⟨(statusOf_eq_illegalOp_iff r.op r.arg).2 h8, by decide⟩
  · exact ⟨(statusOf_eq_badLen_iff r.op r.arg).2 ⟨h7, hlen⟩, by decide⟩

/-- R29, R34: after a completion the block is ready and shows the response. -/
theorem State.completed_outputs (s : State) (status : BitVec 2) (data : Word128) :
    (s.completed status data).outputs = (1#1, 1#1, status, data) := by
  simp [State.outputs, State.reqReady, State.completed]

/-- Settles O52: such a request completes as every accepted one does, with its error status and data zero. -/
theorem abnormalRequestsCompleteLikeAnyOther : Obligations.AbnormalRequestsCompleteLikeAnyOther := by
  intro s r st hacc hrst habnormal
  obtain ⟨hst, hne⟩ := EXEC_status_of_abnormal habnormal
  have hdata : (EXEC r).data = 0#128 := EXEC_data_of_error r (hst ▸ hne)
  refine ⟨_, acceptedRequestIsAnsweredAfterItsLatency s r hacc hrst, ?_, State.completed_latchesZero _ _ _⟩
  rw [State.completed_outputs, hst, hdata]

/-! ### Ignored fields -/

/-- R73, R101: WRITE_TS reads the low 48 bits of its value only. -/
theorem writeTimestamp48_congr (B : Bytes 16) {v w : Word64} (h : v.extractLsb' 0 48 = w.extractLsb' 0 48) :
    writeTimestamp48 B v = writeTimestamp48 B w := by
  simp only [writeTimestamp48, argTimestamp, h]

/-- R73, R102: SET_VERSION reads the low 4 bits of its version only. -/
theorem setVersion_congr (B : Bytes 16) {v w : Word64} (h : v.extractLsb' 0 4 = w.extractLsb' 0 4) :
    setVersion B v = setVersion B w := by
  simp only [setVersion, argVersion, h]

/-- R72: byte sequences that agree below `len` have the same first `len` bytes. -/
theorem take_toList_congr {n len : Nat} {B C : Bytes n}
    (h : ∀ i : Nat, (hi : i < n) → i < len → B[i] = C[i]) : B.toList.take len = C.toList.take len := by
  apply List.ext_getElem
  · simp
  · intro i hi _
    simp only [List.length_take, Vector.length_toList, lt_min_iff] at hi
    simpa using h i hi.2 hi.1

/-- R82: EXEC reads only the fields of R72, code by code. -/
theorem EXEC_congr {a b : Request} (h : AgreeOnFieldsRead a b) : EXEC a = EXEC b := by
  obtain ⟨op, id, k0, k1, arg⟩ := a
  obtain ⟨op', id', j0, j1, arg'⟩ := b
  obtain ⟨rfl : op = op', hread⟩ := h
  induction op using opCode_cases with
  | h n hn =>
    by_cases h8 : 8 ≤ n
    · rw [EXEC_reserved n hn h8, EXEC_reserved n hn h8]
    · interval_cases n
      · obtain ⟨rfl : id = id', rfl : k0 = j0, rfl : k1 = j1⟩ := hread
        rw [EXEC_encode, EXEC_encode]
      · obtain ⟨rfl : id = id', rfl : k0 = j0, rfl : k1 = j1⟩ := hread
        rw [EXEC_decode, EXEC_decode]
      · obtain rfl : id = id' := hread
        rw [EXEC_readTs, EXEC_readTs]
      · obtain ⟨rfl : id = id', harg⟩ := hread
        rw [EXEC_writeTs, EXEC_writeTs, writeTimestamp48_congr _ harg]
      · obtain ⟨rfl : id = id', harg⟩ := hread
        rw [EXEC_setVersion, EXEC_setVersion, setVersion_congr _ harg]
      · obtain rfl : id = id' := hread
        rw [EXEC_setVariant, EXEC_setVariant]
      · obtain rfl : id = id' := hread
        rw [EXEC_buildMaskInput, EXEC_buildMaskInput]
      · obtain ⟨rfl : k0 = j0, rfl : k1 = j1, hlen, hbytes⟩ := hread
        rw [EXEC_keyedHash, EXEC_keyedHash, ← hlen, take_toList_congr hbytes]

/-- Settles O18: the completion depends on the request through EXEC only. -/
theorem ignoredFieldsAreDontCare : Obligations.IgnoredFieldsAreDontCare := by
  intro a b s h
  have hexec : EXEC a = EXEC b := EXEC_congr h
  exact ⟨hexec, by rw [exec_decodeRequest, exec_decodeRequest, hexec]⟩

/-! ### The pseudo-instruction MASK -/

/-- R74: the buffer is the first ten bytes of its response. -/
theorem take_unpack128_dataOfBuffer (C : Bytes 10) : (unpack128 (dataOfBuffer C)).toList.take 10 = C.toList := by
  apply List.ext_getElem
  · simp
  · intro i hi hi10
    simp only [Vector.length_toList] at hi10
    simp only [List.getElem_take, Vector.getElem_toList, unpack128_getElem]
    apply BitVec.eq_of_getLsbD_eq
    intro j hj
    simp only [dataOfBuffer, pack80]
    simp -index only [BitVec.getLsbD_append, BitVec.getLsbD_extractLsb']
    interval_cases i <;> interval_cases j <;> simp

/-- R74, R177: KEYED_HASH with length 10 of a buffer's response hashes the buffer. -/
theorem EXEC_keyedHash_dataOfBuffer (C : Bytes 10) (k0 k1 : Word64) :
    EXEC ⟨0x7#4, dataOfBuffer C, k0, k1, 10#64⟩ = ⟨statusOk, (prf k0 k1 C.toList).setWidth 128⟩ := by
  rw [EXEC_keyedHash, if_neg (by decide), show ((10#64).extractLsb' 0 8).toNat = 10 from rfl,
    take_unpack128_dataOfBuffer]

/-- Settles O35: the second request hashes the canonical buffer, and the mask is the hash's low bits. -/
theorem maskPseudoInstructionYieldsTheMask : Obligations.MaskPseudoInstructionYieldsTheMask := by
  intro id k0 k1
  have hhash := EXEC_keyedHash_dataOfBuffer (buildMaskInput (unpack128 id)) k0 k1
  refine ⟨⟨0x6#4, id, 0#64, 0#64, 0#64⟩, ⟨0x7#4, dataOfBuffer (buildMaskInput (unpack128 id)), k0, k1, 10#64⟩,
    rfl, rfl, rfl, by rw [hhash]; rfl, ?_⟩
  rw [hhash]
  exact BitVec.extractLsb'_setWidth_of_le (by decide)

end Sys2Proof.Machine

/-! # Proofs, family 40_bitfield: the accessor functions and their commands -/

namespace Sys2Proof.Machine

/-! ### Fields before and after each writer -/

/-- R101: the bytes written are the 48 bits of the value, big-endian. -/
@[simp] theorem fieldTs_writeTimestamp48 (B : Bytes 16) (v : Word64) :
    fieldTs (writeTimestamp48 B v) = v.extractLsb' 0 48 := by
  change (argTimestamp v).extractLsb' 40 8 ++ (argTimestamp v).extractLsb' 32 8 ++
    (argTimestamp v).extractLsb' 24 8 ++ (argTimestamp v).extractLsb' 16 8 ++
    (argTimestamp v).extractLsb' 8 8 ++ (argTimestamp v).extractLsb' 0 8 = argTimestamp v
  iterate 5 rw [BitVec.extractLsb'_append_extractLsb'_eq_extractLsb' (by decide)]
  exact BitVec.extractLsb'_eq_self

@[simp] theorem fieldVer_writeTimestamp48 (B : Bytes 16) (v : Word64) :
    fieldVer (writeTimestamp48 B v) = fieldVer B := rfl
@[simp] theorem fieldPa_writeTimestamp48 (B : Bytes 16) (v : Word64) :
    fieldPa (writeTimestamp48 B v) = fieldPa B := rfl
@[simp] theorem fieldVar_writeTimestamp48 (B : Bytes 16) (v : Word64) :
    fieldVar (writeTimestamp48 B v) = fieldVar B := rfl
@[simp] theorem fieldPb_writeTimestamp48 (B : Bytes 16) (v : Word64) :
    fieldPb (writeTimestamp48 B v) = fieldPb B := rfl

/-- R102: the high nibble of byte 6 is the low nibble of the value. -/
@[simp] theorem fieldVer_setVersion (B : Bytes 16) (v : Word64) :
    fieldVer (setVersion B v) = v.extractLsb' 0 4 := by
  rw [fieldVer, setVersion, Vector.getElem_set_self, BitVec.extractLsb'_append_eq_left, argVersion]

/-- R102: the low nibble of byte 6 is kept, and byte 7 is another byte. -/
@[simp] theorem fieldPa_setVersion (B : Bytes 16) (v : Word64) : fieldPa (setVersion B v) = fieldPa B := by
  rw [fieldPa, setVersion, Vector.getElem_set_self, BitVec.extractLsb'_append_eq_right,
    Vector.getElem_set_ne _ _ (by decide), fieldPa]

@[simp] theorem fieldTs_setVersion (B : Bytes 16) (v : Word64) : fieldTs (setVersion B v) = fieldTs B := by
  simp [fieldTs, setVersion]
@[simp] theorem fieldVar_setVersion (B : Bytes 16) (v : Word64) : fieldVar (setVersion B v) = fieldVar B := by
  simp [fieldVar, setVersion]
@[simp] theorem fieldPb_setVersion (B : Bytes 16) (v : Word64) : fieldPb (setVersion B v) = fieldPb B := by
  simp [fieldPb, setVersion]

/-- R103: the top two bits of byte 8 are the stamp. -/
@[simp] theorem fieldVar_setVariantRFC4122 (B : Bytes 16) : fieldVar (setVariantRFC4122 B) = 0b10#2 := by
  rw [fieldVar, setVariantRFC4122, Vector.getElem_set_self, BitVec.extractLsb'_append_eq_left]

/-- R103: the low six bits of byte 8 are kept, and bytes 9 to 15 are other bytes. -/
@[simp] theorem fieldPb_setVariantRFC4122 (B : Bytes 16) : fieldPb (setVariantRFC4122 B) = fieldPb B := by
  rw [fieldPb, setVariantRFC4122, Vector.getElem_set_self, BitVec.extractLsb'_append_eq_right]
  simp [fieldPb]

@[simp] theorem fieldTs_setVariantRFC4122 (B : Bytes 16) : fieldTs (setVariantRFC4122 B) = fieldTs B := by
  simp [fieldTs, setVariantRFC4122]
@[simp] theorem fieldVer_setVariantRFC4122 (B : Bytes 16) : fieldVer (setVariantRFC4122 B) = fieldVer B := by
  simp [fieldVer, setVariantRFC4122]
@[simp] theorem fieldPa_setVariantRFC4122 (B : Bytes 16) : fieldPa (setVariantRFC4122 B) = fieldPa B := by
  simp [fieldPa, setVariantRFC4122]

/-! ### Laws of the writers -/

/-- R100 against R24: the reader reads the timestamp field. -/
theorem readTimestamp48_eq_fieldTs (B : Bytes 16) : readTimestamp48 B = fieldTs B := rfl

/-- R23: an identifier is determined by its five fields. -/
theorem eq_of_fields_eq {B C : Bytes 16} (h : fieldTs B = fieldTs C ∧ fieldVer B = fieldVer C ∧
    fieldPa B = fieldPa C ∧ fieldVar B = fieldVar C ∧ fieldPb B = fieldPb C) : B = C := by
  obtain ⟨hts, hver, hpa, hvar, hpb⟩ := h
  have hpack : pack128 B = pack128 C := by
    rw [fieldsPartitionTheIdentifier.1 B, fieldsPartitionTheIdentifier.1 C, hts, hver, hpa, hvar, hpb]
  rw [← unpack128_pack128 B, hpack, unpack128_pack128]

/-- R104: the writers write disjoint fields, so their order does not matter. -/
theorem writeTimestamp48_setVersion_comm (B : Bytes 16) (v w : Word64) :
    writeTimestamp48 (setVersion B w) v = setVersion (writeTimestamp48 B v) w :=
  eq_of_fields_eq (by simp)

theorem writeTimestamp48_setVariantRFC4122_comm (B : Bytes 16) (v : Word64) :
    writeTimestamp48 (setVariantRFC4122 B) v = setVariantRFC4122 (writeTimestamp48 B v) :=
  eq_of_fields_eq (by simp)

theorem setVersion_setVariantRFC4122_comm (B : Bytes 16) (w : Word64) :
    setVersion (setVariantRFC4122 B) w = setVariantRFC4122 (setVersion B w) :=
  eq_of_fields_eq (by simp)

/-- R104: the field a writer leaves does not depend on what the field was. -/
theorem writeTimestamp48_idem (B : Bytes 16) (v : Word64) :
    writeTimestamp48 (writeTimestamp48 B v) v = writeTimestamp48 B v :=
  eq_of_fields_eq (by simp)

theorem setVersion_idem (B : Bytes 16) (w : Word64) : setVersion (setVersion B w) w = setVersion B w :=
  eq_of_fields_eq (by simp)

theorem setVariantRFC4122_idem (B : Bytes 16) :
    setVariantRFC4122 (setVariantRFC4122 B) = setVariantRFC4122 B :=
  eq_of_fields_eq (by simp)

/-- Settles O21: the three frames follow from what each writer does to each field. -/
theorem accessorsChangeOnlyTheirField : Obligations.AccessorsChangeOnlyTheirField := by
  intro B v w
  refine ⟨?ts, ?ver, ?var, (readTimestamp48_eq_fieldTs _).trans (fieldTs_writeTimestamp48 B v),
    fieldVer_setVersion B v, fieldVar_setVariantRFC4122 B, writeTimestamp48_setVersion_comm B v w,
    writeTimestamp48_setVariantRFC4122_comm B v, setVersion_setVariantRFC4122_comm B w,
    writeTimestamp48_idem B v, setVersion_idem B w, setVariantRFC4122_idem B⟩
  case ts => simp
  case ver => simp
  case var => simp

/-! ### The commands on the packed identifier -/

/-- Two neighbouring bit ranges after a bit string are one range after it. -/
theorem append_extractLsb'_extractLsb' {m w start len start' len' : Nat} (a : BitVec m) (x : BitVec w)
    (h : start' = start + len) :
    a ++ x.extractLsb' start' len' ++ x.extractLsb' start len =
      (a ++ x.extractLsb' start (len' + len)).cast (Nat.add_assoc m len' len).symm := by
  rw [BitVec.append_assoc, BitVec.extractLsb'_append_extractLsb'_eq_extractLsb' h]

/-- R106: the ranges below the timestamp are one range of the identifier. -/
theorem pack128_writeTimestamp48 (I : Word128) (v : Word64) :
    pack128 (writeTimestamp48 (unpack128 I) v) = v.extractLsb' 0 48 ++ I.extractLsb' 0 80 := by
  obtain ⟨-, hver, hpa, hvar, hpb⟩ := fieldsAreTheirBitRanges I
  rw [fieldsPartitionTheIdentifier.1, fieldTs_writeTimestamp48, fieldVer_writeTimestamp48,
    fieldPa_writeTimestamp48, fieldVar_writeTimestamp48, fieldPb_writeTimestamp48, hver, hpa, hvar, hpb]
  iterate 3 rw [append_extractLsb'_extractLsb' _ I (by decide)]
  rfl

/-- R107: the ranges below the version are one range of the identifier. -/
theorem pack128_setVersion (I : Word128) (v : Word64) :
    pack128 (setVersion (unpack128 I) v) =
      I.extractLsb' 80 48 ++ v.extractLsb' 0 4 ++ I.extractLsb' 0 76 := by
  obtain ⟨hts, -, hpa, hvar, hpb⟩ := fieldsAreTheirBitRanges I
  rw [fieldsPartitionTheIdentifier.1, fieldTs_setVersion, fieldVer_setVersion, fieldPa_setVersion,
    fieldVar_setVersion, fieldPb_setVersion, hts, hpa, hvar, hpb]
  iterate 2 rw [append_extractLsb'_extractLsb' _ I (by decide)]
  rfl

/-- R108: the ranges above the variant are one range of the identifier. -/
theorem pack128_setVariantRFC4122 (I : Word128) :
    pack128 (setVariantRFC4122 (unpack128 I)) =
      I.extractLsb' 64 64 ++ 0b10#2 ++ I.extractLsb' 0 62 := by
  obtain ⟨hts, hver, hpa, -, hpb⟩ := fieldsAreTheirBitRanges I
  rw [fieldsPartitionTheIdentifier.1, fieldTs_setVariantRFC4122, fieldVer_setVariantRFC4122,
    fieldPa_setVariantRFC4122, fieldVar_setVariantRFC4122, fieldPb_setVariantRFC4122, hts, hver, hpa, hpb]
  iterate 2 rw [BitVec.extractLsb'_append_extractLsb'_eq_extractLsb' (by decide)]

/-- R100: the timestamp, widened, stands below zeros. -/
theorem setWidth_readTimestamp48 (I : Word128) :
    (readTimestamp48 (unpack128 I)).setWidth 128 = 0#80 ++ I.extractLsb' 80 48 := by
  rw [readTimestamp48_eq_fieldTs, (fieldsAreTheirBitRanges I).1]
  exact BitVec.setWidth_eq_append (by decide)

/-- R39, R79: a request's instruction completes with the response EXEC gives. -/
theorem exec_decodeRequest_of_EXEC {r : Request} {status : BitVec 2} {data : Word128}
    (h : EXEC r = ⟨status, data⟩) (s : State) :
    exec (decodeRequest r) s = .next (s.completed status data) := by
  rw [exec_decodeRequest, h]

/-- Settles O7: EXEC answers the timestamp field below zeros. -/
theorem readTsReturnsTheTimestamp : Obligations.ReadTsReturnsTheTimestamp := by
  intro id k0 k1 arg s
  have hexec := EXEC_readTs id k0 k1 arg
  rw [setWidth_readTimestamp48] at hexec
  exact ⟨rfl, exec_decodeRequest_of_EXEC hexec s⟩

/-- Settles O8: EXEC answers the packed identifier with the new timestamp. -/
theorem writeTsReplacesTheTimestamp : Obligations.WriteTsReplacesTheTimestamp := by
  intro id k0 k1 arg s
  have hexec := EXEC_writeTs id k0 k1 arg
  rw [pack128_writeTimestamp48] at hexec
  exact ⟨rfl, exec_decodeRequest_of_EXEC hexec s⟩

/-- Settles O9: EXEC answers the packed identifier with the new version. -/
theorem setVersionReplacesTheVersion : Obligations.SetVersionReplacesTheVersion := by
  intro id k0 k1 arg s
  have hexec := EXEC_setVersion id k0 k1 arg
  rw [pack128_setVersion] at hexec
  exact ⟨rfl, exec_decodeRequest_of_EXEC hexec s⟩

/-- Settles O10: EXEC answers the packed identifier with the variant stamped. -/
theorem setVariantStampsTheVariant : Obligations.SetVariantStampsTheVariant := by
  intro id k0 k1 arg s
  have hexec := EXEC_setVariant id k0 k1 arg
  rw [pack128_setVariantRFC4122] at hexec
  exact ⟨rfl, exec_decodeRequest_of_EXEC hexec s⟩

end Sys2Proof.Machine

/-! # Proofs, family 41_mask_input: the canonical buffer of the payload -/

namespace Sys2Proof.Machine

/-! ### Masking and concatenation of bit strings -/

/-- Bit strings side by side are equal exactly when the parts are. -/
theorem append_eq_append_iff {m n : Nat} {a c : BitVec m} {b d : BitVec n} :
    a ++ b = c ++ d ↔ a = c ∧ b = d := by
  refine ⟨fun h => ⟨?high, ?low⟩, fun ⟨hac, hbd⟩ => by rw [hac, hbd]⟩
  case high => simpa only [BitVec.extractLsb'_append_eq_left] using congrArg (·.extractLsb' n m) h
  case low => simpa only [BitVec.extractLsb'_append_eq_right] using congrArg (·.extractLsb' 0 n) h

/-- Clearing the high `m` bits changes nothing exactly when they are zero. -/
theorem and_lowMask_eq_self_iff {m n : Nat} (x : BitVec (m + n)) :
    x &&& (0#m ++ BitVec.allOnes n) = x ↔ x.extractLsb' n m = 0#m := by
  have hx : x.extractLsb' n m ++ x.extractLsb' 0 n = x := by
    rw [BitVec.extractLsb'_append_extractLsb'_eq_extractLsb' (Nat.zero_add n).symm,
      BitVec.extractLsb'_eq_self]
  conv_lhs => rw [← hx]
  rw [BitVec.and_append, BitVec.and_zero, BitVec.and_allOnes, BitVec.append_left_inj, eq_comm]

/-! ### The buffer as a number -/

/-- R14: packing ten bytes loses nothing. -/
theorem pack80_inj {C D : Bytes 10} : pack80 C = pack80 D ↔ C = D := by
  refine ⟨fun h => ?_, fun h => by rw [h]⟩
  rw [← Vector.toList_inj, ← take_unpack128_dataOfBuffer C, ← take_unpack128_dataOfBuffer D, dataOfBuffer,
    dataOfBuffer, h]

/-- R131: byte by byte, the buffer is the low ten bytes of the identifier under the bytes of the mask. -/
theorem pack80_buildMaskInput_eq_and (I : Word128) :
    pack80 (buildMaskInput (unpack128 I)) = I.extractLsb' 0 80 &&& 0x0FFF3FFFFFFFFFFFFFFF#80 := by
  have hmask : 0x0FFF3FFFFFFFFFFFFFFF#80 = 0x0F#8 ++ BitVec.allOnes 8 ++ 0x3F#8 ++ BitVec.allOnes 8 ++
      BitVec.allOnes 8 ++ BitVec.allOnes 8 ++ BitVec.allOnes 8 ++ BitVec.allOnes 8 ++ BitVec.allOnes 8 ++
      BitVec.allOnes 8 := by decide
  have hbytes : I.extractLsb' 0 80 = I.extractLsb' 72 8 ++ I.extractLsb' 64 8 ++ I.extractLsb' 56 8 ++
      I.extractLsb' 48 8 ++ I.extractLsb' 40 8 ++ I.extractLsb' 32 8 ++ I.extractLsb' 24 8 ++
      I.extractLsb' 16 8 ++ I.extractLsb' 8 8 ++ I.extractLsb' 0 8 := by
    iterate 9 rw [BitVec.extractLsb'_append_extractLsb'_eq_extractLsb' (by decide)]
  rw [hmask, hbytes]
  iterate 9 rw [BitVec.and_append]
  simp only [BitVec.and_allOnes, pack80, buildMaskInput, unpack128_getElem]
  rfl

/-- R131: the mask keeps the payload's two bit ranges and clears the two ranges beside them. -/
theorem pack80_buildMaskInput_eq_append (I : Word128) :
    pack80 (buildMaskInput (unpack128 I)) =
      0b0000#4 ++ I.extractLsb' 64 12 ++ 0b00#2 ++ I.extractLsb' 0 62 := by
  have hmask : 0x0FFF3FFFFFFFFFFFFFFF#80 = 0#4 ++ BitVec.allOnes 12 ++ 0#2 ++ BitVec.allOnes 62 := by decide
  have hranges : I.extractLsb' 0 80 =
      I.extractLsb' 76 4 ++ I.extractLsb' 64 12 ++ I.extractLsb' 62 2 ++ I.extractLsb' 0 62 := by
    iterate 3 rw [BitVec.extractLsb'_append_extractLsb'_eq_extractLsb' (by decide)]
  rw [pack80_buildMaskInput_eq_and, hmask, hranges]
  iterate 3 rw [BitVec.and_append]
  simp only [BitVec.and_allOnes, BitVec.and_zero]

/-- Settles O22: the concatenation and the masked range are two readings of one number. -/
theorem maskInputIsTheMaskedPayload : Obligations.MaskInputIsTheMaskedPayload :=
  fun I => ⟨pack80_buildMaskInput_eq_append I, pack80_buildMaskInput_eq_and I⟩

/-- Settles O11: EXEC answers the packed buffer above zeros. -/
theorem buildMaskInputReturnsTheBuffer : Obligations.BuildMaskInputReturnsTheBuffer := by
  intro id k0 k1 arg s
  have hexec := EXEC_buildMaskInput id k0 k1 arg
  rw [pack80_buildMaskInput_eq_and] at hexec
  exact ⟨rfl, exec_decodeRequest_of_EXEC hexec s⟩

/-! ### The buffer and the payload -/

/-- R130, R131: the buffer is the two payload segments, each below its zero pad bits. -/
theorem pack80_buildMaskInput_eq_payload (B : Bytes 16) :
    pack80 (buildMaskInput B) = 0#4 ++ fieldPa B ++ 0#2 ++ fieldPb B := by
  induction B using bytes16_cases with
  | h I =>
    obtain ⟨-, -, hpa, -, hpb⟩ := fieldsAreTheirBitRanges I
    rw [pack80_buildMaskInput_eq_append, hpa, hpb]

/-- R132, R133: the buffer and the payload determine each other. -/
theorem buildMaskInput_eq_iff (B C : Bytes 16) :
    buildMaskInput B = buildMaskInput C ↔ fieldPa B = fieldPa C ∧ fieldPb B = fieldPb C := by
  rw [← pack80_inj, pack80_buildMaskInput_eq_payload, pack80_buildMaskInput_eq_payload, append_eq_append_iff,
    BitVec.append_left_inj, BitVec.append_right_inj]

/-- Settles O23: each writer keeps both payload segments. -/
theorem maskInputIgnoresVersionVariantTimestamp : Obligations.MaskInputIgnoresVersionVariantTimestamp := by
  intro B C v w
  have hsame (D : Bytes 16) (hpa : fieldPa D = fieldPa B) (hpb : fieldPb D = fieldPb B) :
      buildMaskInput D = buildMaskInput B := (buildMaskInput_eq_iff D B).2 ⟨hpa, hpb⟩
  exact ⟨hsame _ (fieldPa_setVersion B v) (fieldPb_setVersion B v),
    hsame _ (fieldPa_setVariantRFC4122 B) (fieldPb_setVariantRFC4122 B),
    hsame _ (fieldPa_writeTimestamp48 B w) (fieldPb_writeTimestamp48 B w),
    fun hpa hpb => (buildMaskInput_eq_iff B C).2 ⟨hpa, hpb⟩⟩

/-- An identifier whose bytes 6 to 15 are those of a buffer. -/
def identifierOfBuffer (buf : Bytes 10) : Bytes 16 :=
  #v[0#8, 0#8, 0#8, 0#8, 0#8, 0#8,
     buf[0], buf[1], buf[2], buf[3], buf[4], buf[5], buf[6], buf[7], buf[8], buf[9]]

/-- R130: a buffer that the masks of bytes 0 and 2 leave alone is the buffer of that identifier. -/
theorem buildMaskInput_identifierOfBuffer {buf : Bytes 10} (h0 : buf[0] &&& 0x0F#8 = buf[0])
    (h2 : buf[2] &&& 0x3F#8 = buf[2]) : buildMaskInput (identifierOfBuffer buf) = buf := by
  apply Vector.ext
  intro i hi
  interval_cases i
  · exact h0
  · rfl
  · exact h2
  all_goals rfl

/-- The pad bits of buffer byte 0 are zero exactly when its mask leaves it alone (R130). -/
theorem and_0F_eq_self_iff (b : Byte) : b &&& 0x0F#8 = b ↔ b.extractLsb' 4 4 = 0#4 :=
  and_lowMask_eq_self_iff (m := 4) (n := 4) b

/-- The pad bits of buffer byte 2 are zero exactly when its mask leaves it alone (R130). -/
theorem and_3F_eq_self_iff (b : Byte) : b &&& 0x3F#8 = b ↔ b.extractLsb' 6 2 = 0#2 :=
  and_lowMask_eq_self_iff (m := 2) (n := 6) b

/-- R133: the buffers that occur are those with zero pad bits. -/
theorem exists_buildMaskInput_eq_iff (buf : Bytes 10) :
    (∃ B : Bytes 16, buildMaskInput B = buf) ↔
      buf[0].extractLsb' 4 4 = 0#4 ∧ buf[2].extractLsb' 6 2 = 0#2 := by
  rw [← and_0F_eq_self_iff, ← and_3F_eq_self_iff]
  constructor
  · rintro ⟨B, rfl⟩
    exact ⟨show B[6] &&& 0x0F#8 &&& 0x0F#8 = B[6] &&& 0x0F#8 by rw [BitVec.and_assoc, BitVec.and_self],
      show B[8] &&& 0x3F#8 &&& 0x3F#8 = B[8] &&& 0x3F#8 by rw [BitVec.and_assoc, BitVec.and_self]⟩
  · rintro ⟨h0, h2⟩
    exact ⟨identifierOfBuffer buf, buildMaskInput_identifierOfBuffer h0 h2⟩

/-- Settles O24: the buffer is determined by the payload, and occurs when its pad bits are zero. -/
theorem maskInputDeterminesThePayload : Obligations.MaskInputDeterminesThePayload :=
  ⟨buildMaskInput_eq_iff, exists_buildMaskInput_eq_iff⟩

end Sys2Proof.Machine

/-! # Proofs, family 42_transform: the mask, the transform, encode and decode -/

namespace Sys2Proof.Machine

/-! ### The fields of a transformed identifier -/

/-- The low bits of a widened bit string are the bit string. -/
theorem extractLsb'_setWidth_self {m n : Nat} (x : BitVec m) (h : m ≤ n) :
    (x.setWidth n).extractLsb' 0 m = x := by
  rw [BitVec.extractLsb'_setWidth_of_le (by omega), BitVec.extractLsb'_eq_self]

section
variable (f : Prf) (B : Bytes 16) (k0 k1 : Word64) (v : BitVec 4)

/-- R141: the timestamp is exclusive-ored with the mask; the two stamps leave it alone. -/
@[simp] theorem fieldTs_transformWith :
    fieldTs (transformWith f B k0 k1 v) = fieldTs B ^^^ maskWith f B k0 k1 := by
  simp only [transformWith, fieldTs_setVariantRFC4122, fieldTs_setVersion, fieldTs_writeTimestamp48,
    readTimestamp48_eq_fieldTs]
  exact extractLsb'_setWidth_self _ (by decide)

@[simp] theorem fieldVer_transformWith : fieldVer (transformWith f B k0 k1 v) = v := by
  simp only [transformWith, fieldVer_setVariantRFC4122, fieldVer_setVersion]
  exact extractLsb'_setWidth_self v (by decide)

@[simp] theorem fieldPa_transformWith : fieldPa (transformWith f B k0 k1 v) = fieldPa B := by
  simp [transformWith]

@[simp] theorem fieldVar_transformWith : fieldVar (transformWith f B k0 k1 v) = 0b10#2 := by
  simp [transformWith]

@[simp] theorem fieldPb_transformWith : fieldPb (transformWith f B k0 k1 v) = fieldPb B := by
  simp [transformWith]

/-- R150: the mask reads the payload only, so it is the same after a transform, under any key. -/
@[simp] theorem maskWith_transformWith (j0 j1 : Word64) :
    maskWith f (transformWith f B k0 k1 v) j0 j1 = maskWith f B j0 j1 := by
  have hbuf : buildMaskInput (transformWith f B k0 k1 v) = buildMaskInput B :=
    (buildMaskInput_eq_iff _ _).2 ⟨fieldPa_transformWith f B k0 k1 v, fieldPb_transformWith f B k0 k1 v⟩
  rw [maskWith, maskWith, hbuf]

end

/-- R101: bytes 6 to 15 are kept. -/
theorem writeTimestamp48_getElem (B : Bytes 16) (v : Word64) {i : Nat} (hi : i < 16) (h6 : 6 ≤ i) :
    (writeTimestamp48 B v)[i] = B[i] := by
  interval_cases i <;> rfl

/-- R147: each writer of the transform leaves the whole bytes of the payload alone. -/
theorem transformWith_getElem (f : Prf) (B : Bytes 16) (k0 k1 : Word64) (v : BitVec 4) {i : Nat}
    (hi : i < 16) (h6 : 6 < i) (h8 : 8 ≠ i) : (transformWith f B k0 k1 v)[i] = B[i] := by
  rw [transformWith, setVariantRFC4122, Vector.getElem_set_ne _ _ h8, setVersion,
    Vector.getElem_set_ne _ _ h6.ne, writeTimestamp48_getElem _ _ hi h6.le]

/-- Settles O30: both payload segments are kept, and so are the bytes no stamp is in. -/
theorem transformPreservesThePayload : Obligations.TransformPreservesThePayload :=
  fun f B k0 k1 v => ⟨fieldPa_transformWith f B k0 k1 v, fieldPb_transformWith f B k0 k1 v,
    transformWith_getElem f B k0 k1 v (by decide) (by decide) (by decide),
    fun _ hi h9 => transformWith_getElem f B k0 k1 v hi (by omega) (by omega)⟩

/-- Settles O31: encode and decode are the transform at their stamp. -/
theorem encodeAndDecodeStampVersionAndVariant : Obligations.EncodeAndDecodeStampVersionAndVariant :=
  fun B k0 k1 => ⟨fieldVer_transformWith prf B k0 k1 0x4#4, fieldVer_transformWith prf B k0 k1 0x7#4,
    fieldVar_transformWith prf B k0 k1 0x4#4, fieldVar_transformWith prf B k0 k1 0x7#4⟩

/-! ### Transforming twice -/

section
variable (f : Prf) (B : Bytes 16) (k0 k1 : Word64) (v : BitVec 4)

/-- R141, R150: a second transform, under any key, exclusive-ors its own mask on top of the first. -/
theorem fieldTs_transformWith_transformWith (j0 j1 : Word64) (w : BitVec 4) :
    fieldTs (transformWith f (transformWith f B k0 k1 v) j0 j1 w) =
      fieldTs B ^^^ (maskWith f B k0 k1 ^^^ maskWith f B j0 j1) := by
  rw [fieldTs_transformWith, fieldTs_transformWith, maskWith_transformWith, BitVec.xor_assoc]

/-- R151: under one key the two masks cancel. -/
theorem fieldTs_transformWith_transformWith_same_key (w : BitVec 4) :
    fieldTs (transformWith f (transformWith f B k0 k1 v) k0 k1 w) = fieldTs B := by
  rw [fieldTs_transformWith_transformWith, BitVec.xor_self, BitVec.xor_zero]

/-- R149: under one key only the second pair of stamps remains. -/
theorem transformWith_transformWith_same_key (w : BitVec 4) :
    transformWith f (transformWith f B k0 k1 v) k0 k1 w = setVariantRFC4122 (setVersion B (w.setWidth 64)) := by
  have hts := fieldTs_transformWith_transformWith_same_key f B k0 k1 v w
  have hver : (w.setWidth 64).extractLsb' 0 4 = w := extractLsb'_setWidth_self w (by decide)
  exact eq_of_fields_eq (by simp [hts, hver])

/-- R149, R152: the second transform restores the identifier exactly when the masks cancel and the stamps are
the identifier's own. -/
theorem transformWith_transformWith_eq_self_iff (j0 j1 : Word64) (w : BitVec 4) :
    transformWith f (transformWith f B k0 k1 v) j0 j1 w = B ↔
      maskWith f B k0 k1 = maskWith f B j0 j1 ∧ fieldVer B = w ∧ fieldVar B = 0b10#2 := by
  have hts := fieldTs_transformWith_transformWith f B k0 k1 v j0 j1 w
  constructor
  · intro h
    have hmasks : maskWith f B k0 k1 ^^^ maskWith f B j0 j1 = 0#48 :=
      (BitVec.xor_right_inj (fieldTs B)).1 (by rw [← hts, h, BitVec.xor_zero])
    refine ⟨BitVec.xor_eq_zero_iff.1 hmasks, ?_, ?_⟩ <;> rw [← h]
    · exact fieldVer_transformWith ..
    · exact fieldVar_transformWith ..
  · rintro ⟨hmask, hver, hvar⟩
    rw [hmask, BitVec.xor_self, BitVec.xor_zero] at hts
    exact eq_of_fields_eq (by simp [hts, hver, hvar])

end

/-- Settles O33: the mask is invariant, so the second transform cancels the first. -/
theorem transformTwiceRestoresTheTimestamp : Obligations.TransformTwiceRestoresTheTimestamp :=
  fun f B k0 k1 v w => ⟨maskWith_transformWith f B k0 k1 v k0 k1,
    fieldTs_transformWith_transformWith_same_key f B k0 k1 v w, fieldVer_transformWith f _ k0 k1 w⟩

/-- Settles O32: encode and decode are the transform at two stamps, so either order leaves the second's. -/
theorem decodeInvertsEncode : Obligations.DecodeInvertsEncode := by
  refine fun B k0 k1 => ⟨transformWith_transformWith_same_key prf B k0 k1 0x4#4 0x7#4, ?_,
    transformWith_transformWith_same_key prf B k0 k1 0x7#4 0x4#4⟩
  exact (transformWith_transformWith_eq_self_iff prf B k0 k1 0x4#4 k0 k1 0x7#4).trans (and_iff_right rfl)

/-- Settles O34: the stamps are the identifier's own, so only the masks decide. -/
theorem wrongKeyRestoresExactlyOnEqualMasks : Obligations.WrongKeyRestoresExactlyOnEqualMasks := by
  intro B k0 k1 j0 j1 hver hvar
  have hself := transformWith_transformWith_eq_self_iff prf B k0 k1 0x4#4 j0 j1 0x7#4
  exact not_congr (hself.trans (and_iff_left ⟨hver, hvar⟩))

/-! ### The commands ENCODE and DECODE -/

/-- R141: the packed transform is its five fields, each a bit range of the identifier or a stamp. -/
theorem pack128_transformWith (f : Prf) (I : Word128) (k0 k1 : Word64) (v : BitVec 4) :
    pack128 (transformWith f (unpack128 I) k0 k1 v) =
      (I.extractLsb' 80 48 ^^^ maskWith f (unpack128 I) k0 k1) ++ v ++ I.extractLsb' 64 12 ++ 0b10#2 ++
        I.extractLsb' 0 62 := by
  obtain ⟨hts, -, hpa, -, hpb⟩ := fieldsAreTheirBitRanges I
  rw [fieldsPartitionTheIdentifier.1, fieldTs_transformWith, fieldVer_transformWith, fieldPa_transformWith,
    fieldVar_transformWith, fieldPb_transformWith, hts, hpa, hpb]

/-- Settles O29: this is the packed transform, said once. -/
theorem transformMasksTheTimestampAndStamps : Obligations.TransformMasksTheTimestampAndStamps :=
  pack128_transformWith

/-- Settles O12: EXEC answers the packed transform with stamp 4. -/
theorem encodeMasksAndStampsVersionFour : Obligations.EncodeMasksAndStampsVersionFour := by
  intro id k0 k1 arg s
  have hexec := EXEC_encode id k0 k1 arg
  rw [encodeIdentifier, pack128_transformWith] at hexec
  exact ⟨rfl, exec_decodeRequest_of_EXEC hexec s⟩

/-- Settles O13: EXEC answers the packed transform with stamp 7. -/
theorem decodeUnmasksAndStampsVersionSeven : Obligations.DecodeUnmasksAndStampsVersionSeven := by
  intro id k0 k1 arg s
  have hexec := EXEC_decode id k0 k1 arg
  rw [decodeIdentifier, pack128_transformWith] at hexec
  exact ⟨rfl, exec_decodeRequest_of_EXEC hexec s⟩

/-- R140: the host's exclusive or of the two responses is the transform's new timestamp. -/
theorem timestamp_xor_hash_eq (id : Word128) (k0 k1 : Word64) :
    (EXEC ⟨0x2#4, id, 0#64, 0#64, 0#64⟩).data.extractLsb' 0 48 ^^^
        (EXEC ⟨0x7#4, (EXEC ⟨0x6#4, id, 0#64, 0#64, 0#64⟩).data, k0, k1, 10#64⟩).data.extractLsb' 0 48 =
      readTimestamp48 (unpack128 id) ^^^ maskWith prf (unpack128 id) k0 k1 := by
  have hhash := EXEC_keyedHash_dataOfBuffer (buildMaskInput (unpack128 id)) k0 k1
  rw [EXEC_buildMaskInput, ← dataOfBuffer, hhash, EXEC_readTs]
  exact congrArg₂ (· ^^^ ·) (extractLsb'_setWidth_self _ (by decide))
    (BitVec.extractLsb'_setWidth_of_le (by decide))

/-- Settles O36: the host writes the transform's timestamp, and the three writers are chained as in R141. -/
theorem primitiveCommandsComposeToEncode : Obligations.PrimitiveCommandsComposeToEncode := by
  intro id k0 k1
  simp only [timestamp_xor_hash_eq, EXEC_writeTs, EXEC_setVersion, EXEC_setVariant, EXEC_encode,
    unpack128_pack128]
  rfl

end Sys2Proof.Machine

/-! # Proofs, family 43_keyed_hash: SipHash-2-4 and the command KEYED_HASH -/

namespace Sys2Proof.Machine

/-! ### One SipRound -/

/-- R11: a rotation by less than the width is its two shifts. -/
theorem rotateLeft_eq_shifts (x : Word64) {n : Nat} (h : n < 64) :
    x.rotateLeft n = x <<< n ||| x >>> (64 - n) := by
  rw [BitVec.rotateLeft_def, Nat.mod_eq_of_lt h]

/-- Settles O26: the assignments are the sequence's, once each rotation is written as its shifts. -/
theorem sipRoundIsTheAddRotateXorSequence : Obligations.SipRoundIsTheAddRotateXorSequence := by
  intro a b c d
  simp only [sipRound, rotateLeft_eq_shifts _ (show 13 < 64 by decide),
    rotateLeft_eq_shifts _ (show 16 < 64 by decide), rotateLeft_eq_shifts _ (show 17 < 64 by decide),
    rotateLeft_eq_shifts _ (show 21 < 64 by decide), rotateLeft_eq_shifts _ (show 32 < 64 by decide)]

/-! ### Bytes of a shifted word -/

/-- The bits below a left shift are zero. -/
theorem extractLsb'_shiftLeft_of_le {w start len n : Nat} (x : BitVec w) (h : start + len ≤ n) :
    (x <<< n).extractLsb' start len = 0#len := by
  apply BitVec.eq_of_getLsbD_eq
  intro i hi
  simp [show start + i < n by omega]

/-- A left shift moves the low bits up to where it shifts. -/
theorem extractLsb'_shiftLeft_self {w len n : Nat} (x : BitVec w) (h : n + len ≤ w) :
    (x <<< n).extractLsb' n len = x.extractLsb' 0 len := by
  apply BitVec.eq_of_getLsbD_eq
  intro i hi
  simp [show n + i < w by omega, -BitVec.getLsbD_eq_getElem]

/-! ### The message words -/

/-- R13: byte `j` of a little-endian word, zero past the last byte. -/
theorem extractLsb'_leWord (l : List Byte) {j : Nat} (hj : j < 8) (hl : l.length ≤ 8) :
    (leWord l).extractLsb' (8 * j) 8 = (l[j]?).getD 0#8 := by
  apply BitVec.eq_of_getLsbD_eq
  intro k hk
  rw [BitVec.getLsbD_extractLsb', leWord_getLsbD l j k hj hl hk]
  simp [hk]

/-- R173: full word `i` is the little-endian word of the eight bytes from byte `8i` on. -/
theorem sipFullWords_getElem? (M : List Byte) {i : Nat} (hi : i < M.length / 8) :
    (sipFullWords M)[i]? = some (leWord ((M.drop (8 * i)).take 8)) := by
  simp [sipFullWords, hi]

/-- R173: the final word holds fewer than eight message bytes. -/
theorem length_drop_fullBytes (M : List Byte) : (M.drop (8 * (M.length / 8))).length < 8 := by
  rw [List.length_drop]
  omega

/-- R173: byte `j` of full word `i` is message byte `8i + j`. -/
theorem sipFullWords_byte (M : List Byte) {i j : Nat} (hj : j < 8) (hi : i < M.length / 8) :
    (sipFullWords M)[i]?.map (·.extractLsb' (8 * j) 8) = M[8 * i + j]? := by
  have hbyte : 8 * i + j < M.length := by omega
  rw [sipFullWords_getElem? M hi, Option.map_some, extractLsb'_leWord _ hj (List.length_take_le ..),
    List.getElem?_take_of_lt hj, List.getElem?_drop, List.getElem?_eq_getElem hbyte, Option.getD_some]

/-- R173: the top byte of the final word is the length modulo 256. -/
theorem sipFinalWord_topByte (M : List Byte) :
    (sipFinalWord M).extractLsb' 56 8 = BitVec.ofNat 8 M.length := by
  have hlen := length_drop_fullBytes M
  have htop : (leWord (M.drop (8 * (M.length / 8)))).extractLsb' 56 8 = 0#8 := by
    rw [extractLsb'_leWord (j := 7) _ (by decide) hlen.le, List.getElem?_eq_none (by omega), Option.getD_none]
  rw [sipFinalWord, BitVec.extractLsb'_or, extractLsb'_shiftLeft_self _ (by decide), htop, BitVec.or_zero]
  apply BitVec.eq_of_toNat_eq
  simp

/-- R173: the bytes of the final word below the top one are the remaining message bytes, then zeros. -/
theorem sipFinalWord_lowByte (M : List Byte) {j : Nat} (hj : j < 7) :
    (sipFinalWord M).extractLsb' (8 * j) 8 = (M[8 * (M.length / 8) + j]?).getD 0#8 := by
  rw [sipFinalWord, BitVec.extractLsb'_or, extractLsb'_shiftLeft_of_le _ (by omega), BitVec.zero_or,
    extractLsb'_leWord _ (by omega) (length_drop_fullBytes M).le, List.getElem?_drop]

/-- Settles O25: the full words and the final word, byte by byte. -/
theorem messageWordsHoldTheMessageBytes : Obligations.MessageWordsHoldTheMessageBytes :=
  fun M => ⟨by simp [sipFullWords], fun _ _ hj hi => sipFullWords_byte M hj hi, sipFinalWord_topByte M,
    fun _ hj => sipFinalWord_lowByte M hj⟩

/-! ### Little-endian words as bytes shifted to their places -/

theorem leWord_nil : leWord [] = 0#64 := rfl

/-- R13: the first byte is the least significant, and the others stand eight bits higher. -/
theorem leWord_cons (b : Byte) (l : List Byte) : leWord (b :: l) = leWord l <<< 8 ||| b.setWidth 64 :=
  BitVec.or_comm ..

theorem leWord_cons_shiftLeft (b : Byte) (l : List Byte) (n : Nat) :
    leWord (b :: l) <<< n = leWord l <<< (8 + n) ||| b.setWidth 64 <<< n := by
  rw [leWord_cons, BitVec.shiftLeft_or_distrib, BitVec.shiftLeft_add]

theorem leWord_two (b0 b1 : Byte) : leWord [b0, b1] = b1.setWidth 64 <<< 8 ||| b0.setWidth 64 := by
  rw [leWord_cons, leWord_cons_shiftLeft, leWord_nil, BitVec.zero_shiftLeft, BitVec.zero_or]

theorem leWord_eight (b0 b1 b2 b3 b4 b5 b6 b7 : Byte) :
    leWord [b0, b1, b2, b3, b4, b5, b6, b7] =
      b7.setWidth 64 <<< 56 ||| b6.setWidth 64 <<< 48 ||| b5.setWidth 64 <<< 40 ||| b4.setWidth 64 <<< 32 |||
        b3.setWidth 64 <<< 24 ||| b2.setWidth 64 <<< 16 ||| b1.setWidth 64 <<< 8 ||| b0.setWidth 64 := by
  rw [leWord_cons]
  iterate 7 rw [leWord_cons_shiftLeft]
  rw [leWord_nil, BitVec.zero_shiftLeft, BitVec.zero_or]

/-! ### The hash of a message -/

/-- R173: a message of fewer than eight bytes has no full word. -/
theorem sipFullWords_of_lt {M : List Byte} (h : M.length < 8) : sipFullWords M = [] := by
  simp [sipFullWords, Nat.div_eq_of_lt h]

/-- R173: the one word of a message of fewer than eight bytes. -/
theorem sipFinalWord_of_lt {M : List Byte} (h : M.length < 8) :
    sipFinalWord M = BitVec.ofNat 64 M.length <<< 56 ||| leWord M := by
  rw [sipFinalWord, Nat.div_eq_of_lt h, Nat.mod_eq_of_lt (h.trans (by decide)), Nat.mul_zero, List.drop_zero]

/-- Settles O27: the one word is compressed between initialization and finalization. -/
theorem hashOfAShortMessage : Obligations.HashOfAShortMessage := by
  intro k0 k1 M h
  rw [prf, sipFullWords_of_lt h, sipFinalWord_of_lt h]
  rfl

/-- R173, R176: the one full word of the canonical buffer. -/
theorem sipFullWords_buildMaskInput (B : Bytes 16) :
    sipFullWords (buildMaskInput B).toList =
      [leWord [B[6] &&& 0x0F#8, B[7], B[8] &&& 0x3F#8, B[9], B[10], B[11], B[12], B[13]]] := by
  simp [sipFullWords, buildMaskInput]

/-- R173, R176: the final word of the canonical buffer. -/
theorem sipFinalWord_buildMaskInput (B : Bytes 16) :
    sipFinalWord (buildMaskInput B).toList = 0x0A00000000000000#64 ||| leWord [B[14], B[15]] := by
  simp [sipFinalWord, buildMaskInput]

/-- Settles O28: the buffer's two words, with each byte shifted to its place. -/
theorem hashOfTheCanonicalBuffer : Obligations.HashOfTheCanonicalBuffer := by
  intro B k0 k1
  simp only [prf, sipFullWords_buildMaskInput, sipFinalWord_buildMaskInput, leWord_eight, leWord_two,
    BitVec.shiftLeft_zero, BitVec.or_assoc, List.cons_append, List.nil_append, List.foldl_cons, List.foldl_nil]

/-! ### The command KEYED_HASH -/

/-- R72, R14: the first `len` bytes of an identifier as ranges of port bits. -/
theorem take_unpack128 (I : Word128) {len : Nat} (h : len ≤ 16) :
    (unpack128 I).toList.take len = (List.range len).map fun i => I.extractLsb' (120 - 8 * i) 8 := by
  apply List.ext_getElem
  · simpa using h
  · intro i _ _
    simp

/-- R79, R177: EXEC of KEYED_HASH in port bits. -/
theorem EXEC_keyedHash_eq (id : Word128) (k0 k1 arg : Word64) :
    EXEC ⟨0x7#4, id, k0, k1, arg⟩ =
      if 10 < (arg.extractLsb' 0 8).toNat then ⟨0b10#2, 0#128⟩
      else ⟨0b00#2, 0#64 ++
        prf k0 k1 ((List.range (arg.extractLsb' 0 8).toNat).map fun i => id.extractLsb' (120 - 8 * i) 8)⟩ := by
  rw [EXEC_keyedHash]
  split
  · rfl
  next hlen =>
    rw [take_unpack128 id (by omega), BitVec.setWidth_eq_append (by decide)]
    rfl

/-- Settles O14: EXEC at a bad length and at a good one. -/
theorem keyedHashHashesTheFirstBytes : Obligations.KeyedHashHashesTheFirstBytes := by
  intro id k0 k1 arg s
  have hexec := EXEC_keyedHash_eq id k0 k1 arg
  refine ⟨rfl, ?_⟩
  split
  next hlen => exact exec_decodeRequest_of_EXEC (hexec.trans (if_pos hlen)) s
  next hlen => exact exec_decodeRequest_of_EXEC (hexec.trans (if_neg hlen)) s

end Sys2Proof.Machine

/-! # Proofs, family 60_exceptions: what stops a clock edge, and that nothing else does -/

namespace Sys2Proof.Machine

/-! ### The refused edges -/

/-- R241: an edge with `rst` undriven is refused. -/
theorem step_undriven_rst {s : State} (h : s.nextPorts.rst = none) : step s = .refused (.undriven .rst) := by
  rw [step, edge, h]

/-- R241: an edge that would accept a request with an operand undriven is refused. -/
theorem step_undriven_operand {s : State} {port : InputPort} (h : s.running) (hb : s.busy = 0#1)
    (hv : s.nextPorts.reqValid = some 1#1) (hr : s.nextPorts.request = .error port) :
    step s = .refused (.undriven port) := by
  obtain ⟨hw, hrst⟩ := h
  rw [step_of_idle s hrst hw hb hv, idleEdge, if_pos hv, hr]

/-- R241: where a port that matters is undriven, the edge is refused, whatever the state. -/
theorem step_refused_of_not_inputsDriven {s : State} (h : ¬ s.inputsDriven) :
    ∃ port, step s = .refused (.undriven port) := by
  by_contra hno
  refine h ⟨fun hrst => hno ⟨_, step_undriven_rst hrst⟩, fun hm hv => ?valid, fun hrun hb hv => ?operands⟩
  case valid =>
    have hrst : s.nextPorts.rst ≠ none := fun hrst => hno ⟨_, step_undriven_rst hrst⟩
    exact hno ⟨_, step_undriven_valid s hrst hm hv⟩
  case operands =>
    cases hr : s.nextPorts.request with
    | error port => exact absurd ⟨port, step_undriven_operand hrun hb hv hr⟩ hno
    | ok r => exact ⟨r, rfl⟩

/-! ### The edges that advance -/

/-- R39: without reset, a consistent block in flight completes or counts down: its count is never zero. -/
theorem exists_step_next_of_busy {s : State} (h : s.running) (hs : s.Consistent) (hb : s.busy = 1#1) :
    ∃ t, step s = .next t := by
  obtain ⟨hpos, -⟩ := hs.flightCount hb
  obtain hone | hmore := hpos.eq_or_lt
  · exact ⟨_, step_of_atCompletion ⟨h, hb, hone.symm⟩⟩
  · exact ⟨_, step_of_countDown h hb hmore⟩

/-- R39: without reset, an idle block whose inputs are driven accepts the offer or has none. -/
theorem exists_step_next_of_idle {s : State} (h : s.running) (hd : s.inputsDriven) (hb : s.busy = 0#1) :
    ∃ t, step s = .next t := by
  obtain ⟨-, hvalid, hoperands⟩ := hd
  by_cases hv : s.nextPorts.reqValid = some 1#1
  · obtain ⟨r, hr⟩ := hoperands h hb hv
    exact ⟨_, step_of_atAccept ⟨h, hb, hv, hr⟩⟩
  · have hdriven := hvalid (by simp [State.reqValidMatters, hb])
    exact ⟨_, step_of_noOffer h hb (driven_bit hdriven hv)⟩

/-- R234: before the first reset, an edge without reset draws every element anew, or refuses an offer. -/
theorem step_before_reset_cases {s : State} (hw : s.wasReset = false) (hrst : s.nextPorts.rst = some 0#1)
    (hd : s.inputsDriven) : (∃ t, step s = .next t) ∨ step s = .refused .requestBeforeReset := by
  obtain ⟨-, hvalid, -⟩ := hd
  obtain ⟨v, hv⟩ := Option.ne_none_iff_exists'.1 (hvalid (by simp [State.reqValidMatters, hw]))
  rw [step_before_reset s hrst hw hv, preResetEdge]
  split
  · exact .inr rfl
  · exact .inl ⟨_, rfl⟩

/-- R39, R234: with the inputs driven, an edge of a block that meets the invariant advances, but for a request
offered before the first reset. -/
theorem step_cases_of_inputsDriven {s : State} (hs : s.Inv) (hd : s.inputsDriven) :
    (∃ t, step s = .next t) ∨ (s.wasReset = false ∧ step s = .refused .requestBeforeReset) := by
  have ⟨hdriven, hvalid, _⟩ := hd
  by_cases hreset : s.nextPorts.rst = some 1#1
  · exact .inl ⟨_, step_of_reset s hreset hvalid⟩
  · have hrst := driven_bit hdriven hreset
    cases hw : s.wasReset with
    | false => exact (step_before_reset_cases hw hrst hd).imp_right fun h => ⟨rfl, h⟩
    | true =>
      obtain hb | hb := bit_cases s.busy
      · exact .inl (exists_step_next_of_idle ⟨hw, hrst⟩ hd hb)
      · exact .inl (exists_step_next_of_busy ⟨hw, hrst⟩ (hs hw) hb)

/-- Settles O47: an edge with an undriven input that matters is refused, and every other one advances or is
the refusal before the first reset. -/
theorem blockNeverFaultsAndAlwaysAdvances : Obligations.BlockNeverFaultsAndAlwaysAdvances := by
  intro s hs
  by_cases hd : s.inputsDriven
  · obtain ⟨t, ht⟩ | ⟨hw, hstep⟩ := step_cases_of_inputsDriven hs hd
    · simp [ht, hd]
    · simp [hstep, hw]
  · obtain ⟨port, hport⟩ := step_refused_of_not_inputsDriven hd
    simp [hport, hd]

end Sys2Proof.Machine

/-! # Proofs, family 70_reset_and_hazards: reset, undriven inputs, the latency and what it depends on -/

namespace Sys2Proof.Machine

/-! ### Edges at the control ports -/

/-- R241: an edge that answers a next state and does not reset the block has `rst` driven low. -/
theorem rst_eq_zero_of_step {s t : State} (h : step s = .next t) (hno : ¬ s.atReset) :
    s.nextPorts.rst = some 0#1 :=
  driven_bit (fun hn => by simp [step_undriven_rst hn] at h) hno

/-- R70, R241: the operand ports give a request exactly when all five are driven with its fields. -/
theorem Ports.request_eq_ok_iff (p : Ports) (r : Request) :
    p.request = .ok r ↔ p.reqOp = some r.op ∧ p.reqId = some r.id ∧ p.reqK0 = some r.k0 ∧
      p.reqK1 = some r.k1 ∧ p.reqArg = some r.arg := by
  cases r
  unfold Ports.request
  split
  case h_1 hop hid hk0 hk1 harg => simp [hop, hid, hk0, hk1, harg]
  all_goals simp_all

/-- R234: a request offered before the first reset is refused. -/
theorem step_offer_before_reset {s : State} (hw : s.wasReset = false) (hrst : s.nextPorts.rst = some 0#1)
    (hv : s.nextPorts.reqValid = some 1#1) : step s = .refused .requestBeforeReset := by
  rw [step_before_reset s hrst hw hv, preResetEdge, if_pos hv]

/-- R234: before the first reset, an edge without reset or offer draws every element anew. -/
theorem step_of_draw {s : State} (hw : s.wasReset = false) (hrst : s.nextPorts.rst = some 0#1)
    (hv : s.nextPorts.reqValid = some 0#1) : step s = .next s.popPorts.redraw := by
  rw [step_before_reset s hrst hw hv, preResetEdge, if_neg (by simp [hv])]

/-! ### What an accepting edge says of the block -/

theorem State.atAccept.wasReset {s : State} {r : Request} (h : s.atAccept r) : s.wasReset = true :=
  h.1.1

theorem State.atAccept.busy {s : State} {r : Request} (h : s.atAccept r) : s.busy = 0#1 :=
  h.2.1

theorem State.atAccept.reqOp {s : State} {r : Request} (h : s.atAccept r) :
    s.nextPorts.reqOp = some r.op :=
  ((Ports.request_eq_ok_iff _ r).1 h.2.2.2).1

/-- R239, R241: an edge that answers a next state where a request is offered to an idle block accepts it. -/
theorem atAccept_of_step {s t : State} (h : step s = .next t) (hrun : s.running) (hb : s.busy = 0#1)
    (hv : s.nextPorts.reqValid = some 1#1) : ∃ r, s.atAccept r := by
  cases hr : s.nextPorts.request with
  | error port => simp [step_undriven_operand hrun hb hv hr] at h
  | ok r => exact ⟨r, hrun, hb, hv, hr⟩

/-! ### States that agree on the handshake -/

/-- Two drives with the same control at every edge have it at the next one: they end together, quiet. -/
theorem sameControl_headD {l l' : List Ports} (h : List.Forall₂ SameControl l l') :
    SameControl (l.headD Ports.quiet) (l'.headD Ports.quiet) := by
  cases h with
  | nil => exact ⟨rfl, rfl, rfl⟩
  | cons hp _ => exact hp

section
variable {s s' : State} (h : SameTiming s s')
include h

theorem SameTiming.nextPorts : SameControl s.nextPorts s'.nextPorts := sameControl_headD h.ports

theorem SameTiming.popPorts : SameTiming s.popPorts s'.popPorts :=
  { h with ports := by simpa using List.forall₂_drop 1 h.ports }

theorem SameTiming.toReset : SameTiming s.toReset s'.toReset :=
  { h with busy := rfl, cnt := rfl, rspValid := rfl, wasReset := rfl }

/-- R234: the draws depend on nothing but their number. -/
theorem SameTiming.redraw : SameTiming s.redraw s'.redraw :=
  { h with
    busy := congrArg Config.drawBusy h.draws, cnt := congrArg Config.drawCnt h.draws,
    rspValid := congrArg Config.drawRspValid h.draws, draws := congrArg (· + 1) h.draws }

/-- R40: a completion shows its response at the same edge, whatever the response is. -/
theorem SameTiming.completed (st st' : BitVec 2) (d d' : Word128) :
    SameTiming (s.completed st d) (s'.completed st' d') :=
  { h with busy := rfl, cnt := rfl, rspValid := rfl }

theorem SameTiming.countDown : SameTiming s.countDown s'.countDown :=
  { h with cnt := congrArg (· - 1) h.cnt }

/-- R239: the latency of an accepted request is that of its operation code. -/
theorem SameTiming.accepted {r r' : Request} (hop : r.op = r'.op) :
    SameTiming (s.accepted r) (s'.accepted r') :=
  { h with busy := rfl, cnt := congrArg Config.LAT hop, rspValid := rfl, ports := h.popPorts.ports }

theorem SameTiming.running (hrun : s.running) : s'.running :=
  hrun.imp (h.wasReset.symm.trans ·) (h.nextPorts.1.symm.trans ·)

/-- R239: an edge takes both states along the same branch of R39, and each branch keeps the agreement. -/
theorem SameTiming.step {t t' : State} (hst : step s = .next t) (hst' : step s' = .next t') :
    SameTiming t t' := by
  obtain ⟨hrst', hv', hop'⟩ := h.nextPorts
  cases step_next hst with
  | reset hrst ht =>
    obtain rfl := toReset_of_atReset hst' (hrst'.symm.trans hrst)
    exact ht ▸ h.popPorts.toReset
  | draw hrst hw hv ht =>
    rw [step_of_draw (h.wasReset ▸ hw) (hrst'.symm.trans hrst) (hv'.symm.trans hv)] at hst'
    cases hst'
    exact ht ▸ h.popPorts.redraw
  | complete hrst hw hb hc ht =>
    rw [step_of_atCompletion ⟨h.running ⟨hw, hrst⟩, h.busy ▸ hb, h.cnt ▸ hc⟩] at hst'
    cases hst'
    exact completed_of_exec ht ▸ h.popPorts.completed ..
  | count hrst hw hb hc ht =>
    rw [step_of_countDown (h.running ⟨hw, hrst⟩) (h.busy ▸ hb) (h.cnt ▸ hc)] at hst'
    cases hst'
    exact ht ▸ h.popPorts.countDown
  | accept r hrst hw hb hv hr ht =>
    obtain ⟨r', hacc'⟩ :=
      atAccept_of_step hst' (h.running ⟨hw, hrst⟩) (h.busy ▸ hb) (hv'.symm.trans hv)
    rw [step_of_atAccept hacc'] at hst'
    cases hst'
    have hacc : s.atAccept r := ⟨⟨hw, hrst⟩, hb, hv, hr⟩
    have hop : some r.op = some r'.op := by rw [← hacc.reqOp, hop', hacc'.reqOp]
    exact ht ▸ h.accepted (Option.some.inj hop)
  | idle hrst hw hb hv ht =>
    rw [step_of_noOffer (h.running ⟨hw, hrst⟩) (h.busy ▸ hb) (hv'.symm.trans hv)] at hst'
    cases hst'
    exact ht ▸ h.popPorts

end

/-- R239: two runs keep the agreement on the handshake, by induction on the edges. -/
theorem SameTiming.run (k : Nat) : ∀ s s' t t' : State, SameTiming s s' → RunsTo k s t → RunsTo k s' t' →
    SameTiming t t' := by
  induction k with
  | zero =>
    intro s s' t t' h hrun hrun'
    obtain rfl := (runsTo_zero s t).1 hrun
    obtain rfl := (runsTo_zero s' t').1 hrun'
    exact h
  | succ k ih =>
    intro s s' t t' h hrun hrun'
    obtain ⟨u, hstep, hrun⟩ := (runsTo_succ k s t).1 hrun
    obtain ⟨u', hstep', hrun'⟩ := (runsTo_succ k s' t').1 hrun'
    exact ih u u' t t' (h.step hstep hstep') hrun hrun'

/-- Settles O58: the agreement is kept along both runs, and `req_ready` is a function of `busy`. -/
theorem timingIsIndependentOfDataAndKeys : Obligations.TimingIsIndependentOfDataAndKeys := by
  intro k s s' t t' h hrun hrun'
  have ht := SameTiming.run k s s' t t' h hrun hrun'
  exact ⟨ht, congrArg (~~~ ·) ht.busy⟩

/-! ### Undriven inputs -/

/-- Settles O41: the refusals of R241; with an operand undriven the ports that matter are not all driven. -/
theorem undrivenInputsThatMatterAreRefused : Obligations.UndrivenInputsThatMatterAreRefused := by
  intro s
  refine ⟨step_undriven_rst, fun hrst hm hv => ?valid, fun hrun hb hv hnone => ?operands⟩
  case valid =>
    have hm : s.reqValidMatters = true := by simpa [State.reqValidMatters, or_comm] using hm
    exact step_undriven_valid s hrst hm hv
  case operands =>
    refine step_refused_of_not_inputsDriven fun ⟨_, _, hoperands⟩ => ?_
    obtain ⟨r, hr⟩ := hoperands hrun hb hv
    obtain ⟨hop, hid, hk0, hk1, harg⟩ := (Ports.request_eq_ok_iff _ r).1 hr
    simp [hop, hid, hk0, hk1, harg] at hnone

/-! ### Between an accept and its completion -/

/-- R39: a request in flight only counts down over fewer edges without reset than it has left, by induction
on the edges. -/
theorem runsTo_countDown (k : Nat) : ∀ s t : State, s.wasReset = true → s.busy = 1#1 → k < s.cnt →
    s.noResetFor k → RunsTo k s t → t = { s with cnt := s.cnt - k, ports := s.ports.drop k } := by
  induction k with
  | zero =>
    intro s t _ _ _ _ hrun
    exact ((runsTo_zero s t).1 hrun).symm
  | succ k ih =>
    intro s t hw hb hc hno hrun
    obtain ⟨u, hstep, hrun⟩ := (runsTo_succ k s t).1 hrun
    have hcount := step_of_countDown ⟨hw, rst_eq_zero_of_step hstep hno.not_atReset⟩ hb (by omega)
    obtain rfl := Host.Outcome.next.inj (hcount.symm.trans hstep)
    have hleft : k < s.popPorts.countDown.cnt := Nat.lt_sub_of_add_lt hc
    rw [ih s.popPorts.countDown t hw hb hleft (hno.step hstep) hrun]
    simp [State.countDown, State.popPorts, Nat.sub_sub, Nat.add_comm]

/-- R236, R239: at any of the `LAT(op)` edges after an accept the request is in flight, with the edges left
that have not gone by. -/
theorem runsTo_accepted {s t : State} {r : Request} {k : Nat} (hacc : s.atAccept r)
    (hk : k + 1 ≤ Config.LAT r.op) (hno : s.noResetFor (k + 1)) (hrun : RunsTo (k + 1) s t) :
    t = { s.accepted r with cnt := Config.LAT r.op - k, ports := s.ports.drop (k + 1) } := by
  obtain ⟨u, hstep, hrun⟩ := (runsTo_succ k s t).1 hrun
  obtain rfl := Host.Outcome.next.inj ((step_of_atAccept hacc).symm.trans hstep)
  rw [runsTo_countDown k (s.accepted r) t hacc.wasReset rfl hk (hno.step hstep) hrun]
  simp [State.accepted]

/-! ### A response on the ports -/

/-- The edges after the first accept nothing either. -/
theorem State.noAcceptFor.step {s t : State} {k : Nat} (h : s.noAcceptFor (k + 1)) (hst : step s = .next t) :
    t.noAcceptFor k :=
  fun j u hj hrun => h (j + 1) u (Nat.succ_lt_succ hj) ((runsTo_succ j s u).2 ⟨t, hst, hrun⟩)

/-- R39: an edge of an idle block that is no reset and accepts nothing changes no element. -/
theorem step_of_noAccept {s t : State} (hst : step s = .next t) (hw : s.wasReset = true) (hb : s.busy = 0#1)
    (hno : ¬ s.atReset) (hacc : ∀ r, ¬ s.atAccept r) : t = s.popPorts := by
  cases step_next hst with
  | reset hrst => exact absurd hrst hno
  | draw _ hw' => simp [hw] at hw'
  | complete _ _ hb' => simp [hb] at hb'
  | count _ _ hb' => simp [hb] at hb'
  | accept r hrst _ _ hv hr => exact absurd ⟨⟨hw, hrst⟩, hb, hv, hr⟩ (hacc r)
  | idle _ _ _ _ ht => exact ht

/-- R39: an idle block keeps every element over a run without reset or accept, by induction on the edges. -/
theorem runsTo_idle (k : Nat) : ∀ s t : State, s.wasReset = true → s.busy = 0#1 → s.noResetFor k →
    s.noAcceptFor k → RunsTo k s t → t = { s with ports := s.ports.drop k } := by
  induction k with
  | zero =>
    intro s t _ _ _ _ hrun
    exact ((runsTo_zero s t).1 hrun).symm
  | succ k ih =>
    intro s t hw hb hno hacc hrun
    obtain ⟨u, hstep, hrun⟩ := (runsTo_succ k s t).1 hrun
    have hnone : ∀ r, ¬ s.atAccept r := hacc 0 s k.succ_pos ((runsTo_zero s s).2 rfl)
    obtain rfl := step_of_noAccept hstep hw hb hno.not_atReset hnone
    rw [ih s.popPorts t hw hb (hno.step hstep) (hacc.step hstep) hrun]
    simp [State.popPorts]

/-- Settles O53: in flight only the count changes, and idle nothing does. -/
theorem resultWindow : Obligations.ResultWindow := by
  refine ⟨fun s t r k hacc hk hlat hno hrun => ?flight, fun s t k hw hb hv hno hacc hrun => ?shown⟩
  case flight =>
    obtain ⟨j, rfl⟩ := Nat.exists_eq_add_of_le' hk
    rw [runsTo_accepted hacc hlat hno hrun]
    simp [State.outputs, State.reqReady, State.accepted]
  case shown =>
    rw [runsTo_idle k s t hw hb hno hacc hrun]
    simp [State.outputs, State.reqReady, hb, hv]

/-- Settles O54: up to `LAT(op)` edges after an accept the block is busy and accepts nothing. -/
theorem acceptsAreSpacedByTheLatency : Obligations.AcceptsAreSpacedByTheLatency := by
  intro s t r r' k hacc hk hno hrun hacc'
  by_contra hlt
  obtain ⟨j, rfl⟩ := Nat.exists_eq_add_of_le' hk
  have hidle := hacc'.busy
  rw [runsTo_accepted hacc (by omega) hno hrun] at hidle
  exact absurd hidle (show ¬ (1#1 = 0#1) by decide)

/-! ### A reset in flight -/

/-- A run followed by one more edge. -/
theorem runsTo_snoc (k : Nat) : ∀ s u t : State, RunsTo k s u → step u = .next t → RunsTo (k + 1) s t := by
  induction k with
  | zero =>
    intro s u t hrun hstep
    obtain rfl := (runsTo_zero s u).1 hrun
    exact (runsTo_succ 0 s t).2 ⟨t, hstep, (runsTo_zero t t).2 rfl⟩
  | succ k ih =>
    intro s u t hrun hstep
    obtain ⟨v, hv, hrun⟩ := (runsTo_succ k s u).1 hrun
    exact (runsTo_succ (k + 1) s t).2 ⟨v, hv, ih v u t hrun hstep⟩

/-- R40: edges none of which completes a request hold no response, by induction on the edges. -/
theorem transcript_eq_nil (k : Nat) : ∀ s : State,
    (∀ j t, j < k → RunsTo j s t → ¬ t.atCompletion) → transcript k s = [] := by
  induction k with
  | zero => exact fun _ _ => rfl
  | succ k ih =>
    intro s hnone
    cases h : step s with
    | next t =>
      have hs : ¬ s.atCompletion := hnone 0 s k.succ_pos ((runsTo_zero s s).2 rfl)
      rw [transcript_next h, if_neg (mt s.completing_iff.1 hs)]
      exact ih t fun j u hj hrun => hnone (j + 1) u (Nat.succ_lt_succ hj) ((runsTo_succ j s u).2 ⟨t, h, hrun⟩)
    | fault e => simp [transcript, h]
    | refused e => simp [transcript, h]

/-- Fewer edges of a drive without reset are without reset. -/
theorem State.noResetFor.mono {s : State} {j k : Nat} (h : s.noResetFor k) (hjk : j ≤ k) : s.noResetFor j :=
  fun p hp => h p ((List.take_sublist_take_left hjk).subset hp)

/-- R239: fewer than `LAT(op)` edges after an accept no completion is due. -/
theorem not_atCompletion_of_runsTo {s t : State} {r : Request} {j : Nat} (hacc : s.atAccept r)
    (hj : j < Config.LAT r.op) (hno : s.noResetFor j) (hrun : RunsTo j s t) : ¬ t.atCompletion := by
  rintro ⟨-, hb, hc⟩
  cases j with
  | zero =>
    obtain rfl := (runsTo_zero s t).1 hrun
    simp [hacc.busy] at hb
  | succ j =>
    rw [runsTo_accepted hacc hj.le hno hrun] at hc
    simp only at hc
    omega

/-- Settles O55: no edge before the reset completes the request, and the reset edge does not. -/
theorem resetInFlightLosesTheRequest : Obligations.ResetInFlightLosesTheRequest := by
  intro s u r k hacc hk hlat hno hrun hrst
  refine ⟨runsTo_snoc k s u _ hrun ?reset, transcript_eq_nil (k + 1) s fun j t hj hrunj hdone => ?none⟩
  case reset =>
    obtain ⟨j, rfl⟩ := Nat.exists_eq_add_of_le' hk
    have hu := runsTo_accepted hacc hlat hno hrun
    have hmatters : u.reqValidMatters = false := reqValidMatters_of_busy u (hu ▸ hacc.wasReset) (hu ▸ rfl)
    rw [step_of_reset u hrst (by simp [hmatters]), hu]
    simp [State.toReset, State.popPorts, State.clearLatches, State.accepted, State.reset]
  case none =>
    obtain rfl | hlt := (Nat.lt_succ_iff.1 hj).eq_or_lt
    · obtain rfl := Host.Outcome.next.inj (hrunj.symm.trans hrun)
      exact hrst.rst_ne_zero hdone.1.2
    · exact not_atCompletion_of_runsTo hacc (hlt.trans_le hlat) (hno.mono hlt.le) hrunj hdone

/-! ### The first reset -/

/-- Settles O40: the reset branch of R39 writes every element. -/
theorem resetEdgeClearsEverything : Obligations.ResetEdgeClearsEverything :=
  fun s hrst hv => step_of_reset s hrst hv

/-- Settles O43: the refused offer and the fresh draw, the two edges without reset before the first one. -/
theorem noRequestBeforeTheFirstReset : Obligations.NoRequestBeforeTheFirstReset := by
  intro s hw hrst
  refine ⟨step_offer_before_reset hw hrst, fun hv => ?_⟩
  rw [step_of_draw hw hrst hv, ← hw]
  rfl

/-- Settles O44: one reset edge, whose `req_valid` is driven, and the accepting edge after it. -/
theorem firstEdgeAfterResetAccepts : Obligations.FirstEdgeAfterResetAccepts := by
  intro r rest
  have hreset := step_of_reset (State.powerUp (Ports.assertReset :: Ports.offer r :: rest)) rfl
    fun _ => Option.some_ne_none 0#1
  have haccept : ({ State.reset with ports := Ports.offer r :: rest, draws := 1 } : State).atAccept r :=
    ⟨⟨rfl, rfl⟩, rfl, rfl, rfl⟩
  exact (runsTo_succ ..).2 ⟨_, hreset, (runsTo_succ ..).2 ⟨_, step_of_atAccept haccept, (runsTo_zero ..).2 rfl⟩⟩

end Sys2Proof.Machine
